-- ==== Sys2Proof/Word.lean ====
section
/-! DEFINITION. The word types of the TM32 (spec/10_state.md R20, R49; spec/20_memory.md R100). -/
namespace Sys2Proof

/-- A 32-bit register value or address (R20, R100). -/
abbrev Word := BitVec 32

/-- A byte of memory (R100). -/
abbrev Byte := BitVec 8

/-- The number of a general register, r0..r127 (R20, R189). -/
abbrev Reg := BitVec 7

/-- The 64-bit cycle counter (R49). -/
abbrev Word64 := BitVec 64

end Sys2Proof
end

