-- ==== Sys2Proof/Config.lean ====
section
/-! DEFINITION. What an implementation of the TM32 fixes, and the free values.

The OPAQUE constants have no body: nothing can be proved of the value they give. The model applies the
indexed ones to the counter `State.freeCount`, a fresh index each time (log 11). The named parameters of
spec/92_eei_decisions.md part 2 are in Sys2Proof/Machine/Params.lean. -/
namespace Sys2Proof.Config

/-- Free value: a 32-bit word (log 11). -/
opaque freeWord : Nat → Word
/-- Free value: a byte (log 11). -/
opaque freeByte : Nat → Byte
/-- Free value: one of two outcomes (log 11). -/
opaque freeBool : Nat → Bool
/-- Free value: a count or a choice (log 11). -/
opaque freeNat : Nat → Nat

/-- `LRU_BIT_MAP`: the ten-bit image of a set's LRU state that rdstatus and the instruction cache LRU read show.
The assignment of the bits is lost (R147), so the image is opaque (log 9). -/
opaque lruImage : BitVec 6 → BitVec 4 → BitVec 10
/-- The fields of DC_PARAMS and IC_PARAMS (R75). -/
structure CacheParams where
  blockSize : Nat
  associativity : Nat
  numberOfSets : Nat
deriving DecidableEq, Repr

/-- DC_PARAMS (R75). -/
def dcParams : CacheParams := ⟨64, 8, 32⟩
/-- IC_PARAMS (R75). -/
def icParams : CacheParams := ⟨64, 8, 64⟩

/-- The word in which DC_PARAMS and IC_PARAMS show their fields. The positions of the fields are lost (R75), so the image
is opaque (log 9). -/
opaque paramsImage : CacheParams → Word

end Sys2Proof.Config
end

