-- ==== Sys2Proof/Syntax.lean ====
section
/-! DEFINITION. The operations of the TM32, one constructor for each of the 207 mnemonics of
spec/30_encoding.md R192 (spec/opcode_table.json).

An operation is the record of R183: `g` is the guard register (absent for iimm, uimm and nop, R186), `s1` and `s2` the
sources in the order of the syntax line (R196), `d` the destination, `m` the modifier at its TRUE value, not the
scaled field value (R187), `a` the absolute address of an immediate jump (R516). -/
namespace Sys2Proof

/-- The functional units (R190). -/
inductive FuncUnit
  | const | alu | dspalu | dspmul | dmem | dmemspec | shifter | branch | falu | ifmul | fcomp | ftough
  /-- nop occupies no unit (R530). -/
  | none
deriving DecidableEq, Repr

/-- The issue slots in which an operation of the unit may stand (R190). -/
def FuncUnit.slots : FuncUnit → List Nat
  | .const | .alu | .none => [1, 2, 3, 4, 5]
  | .dspalu => [1, 3]
  | .dspmul | .ifmul => [2, 3]
  | .dmem => [4, 5]
  | .dmemspec => [5]
  | .shifter => [1, 2]
  | .branch => [2, 3, 4]
  | .falu => [1, 4]
  | .fcomp => [3]
  | .ftough => [2]

/-- The modifier of an operation with its kind (R187). -/
inductive Modifier
  | none
  /-- byte displacement -/
  | disp1 (v : Int)
  /-- halfword displacement -/
  | disp2 (v : Int)
  /-- word displacement -/
  | disp4 (v : Int)
  /-- signed immediate -/
  | simm (v : Int)
  /-- unsigned immediate -/
  | uimm (v : Int)
  /-- shift amount -/
  | shift (v : Int)
  /-- signed 32-bit constant -/
  | imm32 (v : Int)
  /-- unsigned 32-bit constant -/
  | uimm32 (v : Int)
  /-- jump address -/
  | addr (v : Word)
deriving DecidableEq, Repr

/-- One operation of an instruction. Each constructor's comment gives the rule of its meaning. -/
inductive Instr
  /-- 40_load_store.md R220 (pseudo-operation: allocd(0) rsrc1). -/
  | alloc (g s1 : Reg)
  /-- 40_load_store.md R221. -/
  | allocd (g : Reg) (m : Int) (s1 : Reg)
  /-- 40_load_store.md R222. -/
  | allocr (g s1 s2 : Reg)
  /-- 40_load_store.md R223. -/
  | allocx (g s1 s2 : Reg)
  /-- 41_shift_logical.md R283. -/
  | asl (g s1 s2 d : Reg)
  /-- 41_shift_logical.md R284. -/
  | asli (g : Reg) (m : Int) (s1 d : Reg)
  /-- 41_shift_logical.md R285. -/
  | asr (g s1 s2 d : Reg)
  /-- 41_shift_logical.md R286. -/
  | asri (g : Reg) (m : Int) (s1 d : Reg)
  /-- 41_shift_logical.md R296. -/
  | bitand (g s1 s2 d : Reg)
  /-- 41_shift_logical.md R297. -/
  | bitandinv (g s1 s2 d : Reg)
  /-- 41_shift_logical.md R298. -/
  | bitinv (g s1 d : Reg)
  /-- 41_shift_logical.md R299. -/
  | bitor (g s1 s2 d : Reg)
  /-- 41_shift_logical.md R300. -/
  | bitxor (g s1 s2 d : Reg)
  /-- 46_int_arith_imm_ext.md R442 (pseudo-operation: ugtr rsrc2 rsrc1 -> rdest). -/
  | borrow (g s1 s2 d : Reg)
  /-- 46_int_arith_imm_ext.md R443. -/
  | carry (g s1 s2 d : Reg)
  /-- 48_control_special.md R533. -/
  | curcycles (g d : Reg)
  /-- 48_control_special.md R531. -/
  | cycles (g d : Reg)
  /-- 49_cache_pack.md R550. -/
  | dcb (g : Reg) (m : Int) (s1 : Reg)
  /-- 49_cache_pack.md R551. -/
  | dinvalid (g : Reg) (m : Int) (s1 : Reg)
  /-- 42_dsp.md R313 (pseudo-operation: h_dspiabs r0 rsrc1 -> rdest). -/
  | dspiabs (g s1 d : Reg)
  /-- 42_dsp.md R314. -/
  | dspiadd (g s1 s2 d : Reg)
  /-- 42_dsp.md R315 (pseudo-operation: h_dspidualabs r0 rsrc1 -> rdest). -/
  | dspidualabs (g s1 d : Reg)
  /-- 42_dsp.md R316. -/
  | dspidualadd (g s1 s2 d : Reg)
  /-- 42_dsp.md R317. -/
  | dspidualmul (g s1 s2 d : Reg)
  /-- 42_dsp.md R318. -/
  | dspidualsub (g s1 s2 d : Reg)
  /-- 42_dsp.md R319. -/
  | dspimul (g s1 s2 d : Reg)
  /-- 42_dsp.md R320. -/
  | dspisub (g s1 s2 d : Reg)
  /-- 42_dsp.md R321. -/
  | dspuadd (g s1 s2 d : Reg)
  /-- 42_dsp.md R322. -/
  | dspumul (g s1 s2 d : Reg)
  /-- 42_dsp.md R323. -/
  | dspuquadaddui (g s1 s2 d : Reg)
  /-- 42_dsp.md R324. -/
  | dspusub (g s1 s2 d : Reg)
  /-- 42_dsp.md R325. -/
  | dualasr (g s1 s2 d : Reg)
  /-- 42_dsp.md R326. -/
  | dualiclipi (g s1 s2 d : Reg)
  /-- 42_dsp.md R327. -/
  | dualuclipi (g s1 s2 d : Reg)
  /-- 43_float_arith.md R366. -/
  | fabsval (g s1 d : Reg)
  /-- 43_float_arith.md R367. -/
  | fabsvalflags (g s1 d : Reg)
  /-- 43_float_arith.md R368. -/
  | fadd (g s1 s2 d : Reg)
  /-- 43_float_arith.md R369. -/
  | faddflags (g s1 s2 d : Reg)
  /-- 43_float_arith.md R370. -/
  | fdiv (g s1 s2 d : Reg)
  /-- 43_float_arith.md R371. -/
  | fdivflags (g s1 s2 d : Reg)
  /-- 45_float_rel.md R423. -/
  | feql (g s1 s2 d : Reg)
  /-- 45_float_rel.md R424. -/
  | feqlflags (g s1 s2 d : Reg)
  /-- 45_float_rel.md R425. -/
  | fgeq (g s1 s2 d : Reg)
  /-- 45_float_rel.md R426. -/
  | fgeqflags (g s1 s2 d : Reg)
  /-- 45_float_rel.md R427. -/
  | fgtr (g s1 s2 d : Reg)
  /-- 45_float_rel.md R428. -/
  | fgtrflags (g s1 s2 d : Reg)
  /-- 45_float_rel.md R429 (pseudo-operation: fgeq rsrc2 rsrc1 -> rdest). -/
  | fleq (g s1 s2 d : Reg)
  /-- 45_float_rel.md R430 (pseudo-operation: fgeqflags rsrc2 rsrc1 -> rdest). -/
  | fleqflags (g s1 s2 d : Reg)
  /-- 45_float_rel.md R431 (pseudo-operation: fgtr rsrc2 rsrc1 -> rdest). -/
  | fles (g s1 s2 d : Reg)
  /-- 45_float_rel.md R432 (pseudo-operation: fgtrflags rsrc2 rsrc1 -> rdest). -/
  | flesflags (g s1 s2 d : Reg)
  /-- 43_float_arith.md R372. -/
  | fmul (g s1 s2 d : Reg)
  /-- 43_float_arith.md R373. -/
  | fmulflags (g s1 s2 d : Reg)
  /-- 45_float_rel.md R433. -/
  | fneq (g s1 s2 d : Reg)
  /-- 45_float_rel.md R434. -/
  | fneqflags (g s1 s2 d : Reg)
  /-- 43_float_arith.md R374. -/
  | fsign (g s1 d : Reg)
  /-- 43_float_arith.md R375. -/
  | fsignflags (g s1 d : Reg)
  /-- 43_float_arith.md R377. -/
  | fsqrt (g s1 d : Reg)
  /-- 43_float_arith.md R378. -/
  | fsqrtflags (g s1 d : Reg)
  /-- 43_float_arith.md R379. -/
  | fsub (g s1 s2 d : Reg)
  /-- 43_float_arith.md R380. -/
  | fsubflags (g s1 s2 d : Reg)
  /-- 41_shift_logical.md R287. -/
  | funshift1 (g s1 s2 d : Reg)
  /-- 41_shift_logical.md R288. -/
  | funshift2 (g s1 s2 d : Reg)
  /-- 41_shift_logical.md R289. -/
  | funshift3 (g s1 s2 d : Reg)
  /-- 42_dsp.md R328. -/
  | hDspiabs (g s1 s2 d : Reg)
  /-- 42_dsp.md R329. -/
  | hDspidualabs (g s1 s2 d : Reg)
  /-- 46_int_arith_imm_ext.md R444. -/
  | hIabs (g s1 s2 d : Reg)
  /-- 40_load_store.md R225. -/
  | hSt16d (g : Reg) (m : Int) (s1 s2 : Reg)
  /-- 40_load_store.md R226. -/
  | hSt32d (g : Reg) (m : Int) (s1 s2 : Reg)
  /-- 40_load_store.md R224. -/
  | hSt8d (g : Reg) (m : Int) (s1 s2 : Reg)
  /-- 48_control_special.md R532. -/
  | hicycles (g d : Reg)
  /-- 46_int_arith_imm_ext.md R445 (pseudo-operation: h_iabs r0 rsrc1 -> rdest). -/
  | iabs (g s1 d : Reg)
  /-- 46_int_arith_imm_ext.md R446. -/
  | iadd (g s1 s2 d : Reg)
  /-- 46_int_arith_imm_ext.md R447. -/
  | iaddi (g : Reg) (m : Int) (s1 d : Reg)
  /-- 46_int_arith_imm_ext.md R448. -/
  | iavgonep (g s1 s2 d : Reg)
  /-- 49_cache_pack.md R560. -/
  | ibytesel (g s1 s2 d : Reg)
  /-- 42_dsp.md R330. -/
  | iclipi (g s1 s2 d : Reg)
  /-- 49_cache_pack.md R552. -/
  | iclr (g : Reg)
  /-- 46_int_arith_imm_ext.md R449 (pseudo-operation: iadd r0 rsrc1 -> rdest). -/
  | ident (g s1 d : Reg)
  /-- 47_int_relational.md R482. -/
  | ieql (g s1 s2 d : Reg)
  /-- 47_int_relational.md R483. -/
  | ieqli (g : Reg) (m : Int) (s1 d : Reg)
  /-- 42_dsp.md R331. -/
  | ifir16 (g s1 s2 d : Reg)
  /-- 42_dsp.md R332. -/
  | ifir8ii (g s1 s2 d : Reg)
  /-- 42_dsp.md R333. -/
  | ifir8ui (g s1 s2 d : Reg)
  /-- 44_float_conv.md R394. -/
  | ifixieee (g s1 d : Reg)
  /-- 44_float_conv.md R395. -/
  | ifixieeeflags (g s1 d : Reg)
  /-- 44_float_conv.md R396. -/
  | ifixrz (g s1 d : Reg)
  /-- 44_float_conv.md R397. -/
  | ifixrzflags (g s1 d : Reg)
  /-- 42_dsp.md R334. -/
  | iflip (g s1 s2 d : Reg)
  /-- 44_float_conv.md R398. -/
  | ifloat (g s1 d : Reg)
  /-- 44_float_conv.md R399. -/
  | ifloatflags (g s1 d : Reg)
  /-- 44_float_conv.md R400. -/
  | ifloatrz (g s1 d : Reg)
  /-- 44_float_conv.md R401. -/
  | ifloatrzflags (g s1 d : Reg)
  /-- 47_int_relational.md R484. -/
  | igeq (g s1 s2 d : Reg)
  /-- 47_int_relational.md R485. -/
  | igeqi (g : Reg) (m : Int) (s1 d : Reg)
  /-- 47_int_relational.md R486. -/
  | igtr (g s1 s2 d : Reg)
  /-- 47_int_relational.md R487. -/
  | igtri (g : Reg) (m : Int) (s1 d : Reg)
  /-- 46_int_arith_imm_ext.md R459. -/
  | iimm (m : Int) (d : Reg)
  /-- 48_control_special.md R523. -/
  | ijmpf (g s1 s2 : Reg)
  /-- 48_control_special.md R524. -/
  | ijmpi (g : Reg) (a : Word)
  /-- 48_control_special.md R525. -/
  | ijmpt (g s1 s2 : Reg)
  /-- 40_load_store.md R227 (pseudo-operation: ild16d(0) rsrc1 -> rdest). -/
  | ild16 (g s1 d : Reg)
  /-- 40_load_store.md R228. -/
  | ild16d (g : Reg) (m : Int) (s1 d : Reg)
  /-- 40_load_store.md R229. -/
  | ild16r (g s1 s2 d : Reg)
  /-- 40_load_store.md R230. -/
  | ild16x (g s1 s2 d : Reg)
  /-- 40_load_store.md R231 (pseudo-operation: ild8d(0) rsrc1 -> rdest). -/
  | ild8 (g s1 d : Reg)
  /-- 40_load_store.md R232. -/
  | ild8d (g : Reg) (m : Int) (s1 d : Reg)
  /-- 40_load_store.md R233. -/
  | ild8r (g s1 s2 d : Reg)
  /-- 47_int_relational.md R488 (pseudo-operation: igeq rsrc2 rsrc1 -> rdest). -/
  | ileq (g s1 s2 d : Reg)
  /-- 47_int_relational.md R489. -/
  | ileqi (g : Reg) (m : Int) (s1 d : Reg)
  /-- 47_int_relational.md R490 (pseudo-operation: igtr rsrc2 rsrc1 -> rdest). -/
  | iles (g s1 s2 d : Reg)
  /-- 47_int_relational.md R491. -/
  | ilesi (g : Reg) (m : Int) (s1 d : Reg)
  /-- 42_dsp.md R335. -/
  | imax (g s1 s2 d : Reg)
  /-- 42_dsp.md R336. -/
  | imin (g s1 s2 d : Reg)
  /-- 46_int_arith_imm_ext.md R450. -/
  | imul (g s1 s2 d : Reg)
  /-- 46_int_arith_imm_ext.md R451. -/
  | imulm (g s1 s2 d : Reg)
  /-- 46_int_arith_imm_ext.md R452 (pseudo-operation: isub r0 rsrc1 -> rdest). -/
  | ineg (g s1 d : Reg)
  /-- 47_int_relational.md R492. -/
  | ineq (g s1 s2 d : Reg)
  /-- 47_int_relational.md R493. -/
  | ineqi (g : Reg) (m : Int) (s1 d : Reg)
  /-- 46_int_arith_imm_ext.md R453. -/
  | inonzero (g s1 s2 d : Reg)
  /-- 46_int_arith_imm_ext.md R454. -/
  | isub (g s1 s2 d : Reg)
  /-- 46_int_arith_imm_ext.md R455. -/
  | isubi (g : Reg) (m : Int) (s1 d : Reg)
  /-- 46_int_arith_imm_ext.md R456. -/
  | izero (g s1 s2 d : Reg)
  /-- 48_control_special.md R520. -/
  | jmpf (g s1 s2 : Reg)
  /-- 48_control_special.md R521. -/
  | jmpi (g : Reg) (a : Word)
  /-- 48_control_special.md R522. -/
  | jmpt (g s1 s2 : Reg)
  /-- 40_load_store.md R234 (pseudo-operation: ld32d(0) rsrc1 -> rdest). -/
  | ld32 (g s1 d : Reg)
  /-- 40_load_store.md R235. -/
  | ld32d (g : Reg) (m : Int) (s1 d : Reg)
  /-- 40_load_store.md R236. -/
  | ld32r (g s1 s2 d : Reg)
  /-- 40_load_store.md R237. -/
  | ld32x (g s1 s2 d : Reg)
  /-- 41_shift_logical.md R290 (pseudo-operation: asl rsrc1 rsrc2 -> rdest). -/
  | lsl (g s1 s2 d : Reg)
  /-- 41_shift_logical.md R291 (pseudo-operation: asli(n) rsrc1 -> rdest). -/
  | lsli (g : Reg) (m : Int) (s1 d : Reg)
  /-- 41_shift_logical.md R292. -/
  | lsr (g s1 s2 d : Reg)
  /-- 41_shift_logical.md R293. -/
  | lsri (g : Reg) (m : Int) (s1 d : Reg)
  /-- 49_cache_pack.md R561. -/
  | mergedual16lsb (g s1 s2 d : Reg)
  /-- 49_cache_pack.md R562. -/
  | mergelsb (g s1 s2 d : Reg)
  /-- 49_cache_pack.md R563. -/
  | mergemsb (g s1 s2 d : Reg)
  /-- 48_control_special.md R530. -/
  | nop
  /-- 49_cache_pack.md R564. -/
  | pack16lsb (g s1 s2 d : Reg)
  /-- 49_cache_pack.md R565. -/
  | pack16msb (g s1 s2 d : Reg)
  /-- 49_cache_pack.md R566. -/
  | packbytes (g s1 s2 d : Reg)
  /-- 40_load_store.md R240 (pseudo-operation: prefd(0) rsrc1). -/
  | pref (g s1 : Reg)
  /-- 40_load_store.md R241. -/
  | pref16x (g s1 s2 : Reg)
  /-- 40_load_store.md R242. -/
  | pref32x (g s1 s2 : Reg)
  /-- 40_load_store.md R243. -/
  | prefd (g : Reg) (m : Int) (s1 : Reg)
  /-- 40_load_store.md R244. -/
  | prefr (g s1 s2 : Reg)
  /-- 42_dsp.md R337. -/
  | quadavg (g s1 s2 d : Reg)
  /-- 42_dsp.md R338. -/
  | quadumax (g s1 s2 d : Reg)
  /-- 42_dsp.md R339. -/
  | quadumin (g s1 s2 d : Reg)
  /-- 42_dsp.md R340. -/
  | quadumulmsb (g s1 s2 d : Reg)
  /-- 49_cache_pack.md R553. -/
  | rdstatus (g : Reg) (m : Int) (s1 d : Reg)
  /-- 49_cache_pack.md R554. -/
  | rdtag (g : Reg) (m : Int) (s1 d : Reg)
  /-- 48_control_special.md R534. -/
  | readdpc (g d : Reg)
  /-- 48_control_special.md R536. -/
  | readpcsw (g d : Reg)
  /-- 48_control_special.md R535. -/
  | readspc (g d : Reg)
  /-- 41_shift_logical.md R294. -/
  | rol (g s1 s2 d : Reg)
  /-- 41_shift_logical.md R295. -/
  | roli (g : Reg) (m : Int) (s1 d : Reg)
  /-- 46_int_arith_imm_ext.md R461. -/
  | sex16 (g s1 d : Reg)
  /-- 46_int_arith_imm_ext.md R462 (pseudo-operation: ibytesel rsrc1 r0 -> rdest). -/
  | sex8 (g s1 d : Reg)
  /-- 40_load_store.md R245 (pseudo-operation: h_st16d(0) rsrc2 rsrc1). -/
  | st16 (g s1 s2 : Reg)
  /-- 40_load_store.md R246 (pseudo-operation: h_st16d(d) rsrc2 rsrc1). -/
  | st16d (g : Reg) (m : Int) (s1 s2 : Reg)
  /-- 40_load_store.md R247 (pseudo-operation: h_st32d(0) rsrc2 rsrc1). -/
  | st32 (g s1 s2 : Reg)
  /-- 40_load_store.md R248 (pseudo-operation: h_st32d(d) rsrc2 rsrc1). -/
  | st32d (g : Reg) (m : Int) (s1 s2 : Reg)
  /-- 40_load_store.md R249 (pseudo-operation: h_st8d(0) rsrc2 rsrc1). -/
  | st8 (g s1 s2 : Reg)
  /-- 40_load_store.md R250 (pseudo-operation: h_st8d(d) rsrc2 rsrc1). -/
  | st8d (g : Reg) (m : Int) (s1 s2 : Reg)
  /-- 49_cache_pack.md R567. -/
  | ubytesel (g s1 s2 d : Reg)
  /-- 42_dsp.md R341. -/
  | uclipi (g s1 s2 d : Reg)
  /-- 42_dsp.md R342. -/
  | uclipu (g s1 s2 d : Reg)
  /-- 47_int_relational.md R494 (pseudo-operation: ieql rsrc1 rsrc2 -> rdest). -/
  | ueql (g s1 s2 d : Reg)
  /-- 47_int_relational.md R495. -/
  | ueqli (g : Reg) (m : Int) (s1 d : Reg)
  /-- 42_dsp.md R343. -/
  | ufir16 (g s1 s2 d : Reg)
  /-- 42_dsp.md R344. -/
  | ufir8uu (g s1 s2 d : Reg)
  /-- 44_float_conv.md R402. -/
  | ufixieee (g s1 d : Reg)
  /-- 44_float_conv.md R403. -/
  | ufixieeeflags (g s1 d : Reg)
  /-- 44_float_conv.md R404. -/
  | ufixrz (g s1 d : Reg)
  /-- 44_float_conv.md R405. -/
  | ufixrzflags (g s1 d : Reg)
  /-- 44_float_conv.md R406. -/
  | ufloat (g s1 d : Reg)
  /-- 44_float_conv.md R407. -/
  | ufloatflags (g s1 d : Reg)
  /-- 44_float_conv.md R408. -/
  | ufloatrz (g s1 d : Reg)
  /-- 44_float_conv.md R409. -/
  | ufloatrzflags (g s1 d : Reg)
  /-- 47_int_relational.md R496. -/
  | ugeq (g s1 s2 d : Reg)
  /-- 47_int_relational.md R497. -/
  | ugeqi (g : Reg) (m : Int) (s1 d : Reg)
  /-- 47_int_relational.md R498. -/
  | ugtr (g s1 s2 d : Reg)
  /-- 47_int_relational.md R499. -/
  | ugtri (g : Reg) (m : Int) (s1 d : Reg)
  /-- 46_int_arith_imm_ext.md R460. -/
  | uimm (m : Int) (d : Reg)
  /-- 40_load_store.md R251 (pseudo-operation: uld16d(0) rsrc1 -> rdest). -/
  | uld16 (g s1 d : Reg)
  /-- 40_load_store.md R252. -/
  | uld16d (g : Reg) (m : Int) (s1 d : Reg)
  /-- 40_load_store.md R253. -/
  | uld16r (g s1 s2 d : Reg)
  /-- 40_load_store.md R254. -/
  | uld16x (g s1 s2 d : Reg)
  /-- 40_load_store.md R255 (pseudo-operation: uld8d(0) rsrc1 -> rdest). -/
  | uld8 (g s1 d : Reg)
  /-- 40_load_store.md R256. -/
  | uld8d (g : Reg) (m : Int) (s1 d : Reg)
  /-- 40_load_store.md R257. -/
  | uld8r (g s1 s2 d : Reg)
  /-- 47_int_relational.md R500 (pseudo-operation: ugeq rsrc2 rsrc1 -> rdest). -/
  | uleq (g s1 s2 d : Reg)
  /-- 47_int_relational.md R501. -/
  | uleqi (g : Reg) (m : Int) (s1 d : Reg)
  /-- 47_int_relational.md R502 (pseudo-operation: ugtr rsrc2 rsrc1 -> rdest). -/
  | ules (g s1 s2 d : Reg)
  /-- 47_int_relational.md R503. -/
  | ulesi (g : Reg) (m : Int) (s1 d : Reg)
  /-- 42_dsp.md R345. -/
  | ume8ii (g s1 s2 d : Reg)
  /-- 42_dsp.md R346. -/
  | ume8uu (g s1 s2 d : Reg)
  /-- 42_dsp.md R347 (pseudo-operation: uclipu rsrc1 rsrc2 -> rdest). -/
  | umin (g s1 s2 d : Reg)
  /-- 46_int_arith_imm_ext.md R457. -/
  | umul (g s1 s2 d : Reg)
  /-- 46_int_arith_imm_ext.md R458. -/
  | umulm (g s1 s2 d : Reg)
  /-- 47_int_relational.md R504 (pseudo-operation: ineq rsrc1 rsrc2 -> rdest). -/
  | uneq (g s1 s2 d : Reg)
  /-- 47_int_relational.md R505. -/
  | uneqi (g : Reg) (m : Int) (s1 d : Reg)
  /-- 48_control_special.md R537. -/
  | writedpc (g s1 : Reg)
  /-- 48_control_special.md R539. -/
  | writepcsw (g s1 s2 : Reg)
  /-- 48_control_special.md R538. -/
  | writespc (g s1 : Reg)
  /-- 46_int_arith_imm_ext.md R463 (pseudo-operation: pack16lsb r0 rsrc1 -> rdest). -/
  | zex16 (g s1 d : Reg)
  /-- 46_int_arith_imm_ext.md R464 (pseudo-operation: ubytesel rsrc1 r0 -> rdest). -/
  | zex8 (g s1 d : Reg)
deriving DecidableEq, Repr

/-- The functional unit of an operation (R192). -/
def Instr.unit : Instr → FuncUnit
  | .alloc _ _ => .dmemspec
  | .allocd _ _ _ => .dmemspec
  | .allocr _ _ _ => .dmemspec
  | .allocx _ _ _ => .dmemspec
  | .asl _ _ _ _ => .shifter
  | .asli _ _ _ _ => .shifter
  | .asr _ _ _ _ => .shifter
  | .asri _ _ _ _ => .shifter
  | .bitand _ _ _ _ => .alu
  | .bitandinv _ _ _ _ => .alu
  | .bitinv _ _ _ => .alu
  | .bitor _ _ _ _ => .alu
  | .bitxor _ _ _ _ => .alu
  | .borrow _ _ _ _ => .alu
  | .carry _ _ _ _ => .alu
  | .curcycles _ _ => .fcomp
  | .cycles _ _ => .fcomp
  | .dcb _ _ _ => .dmemspec
  | .dinvalid _ _ _ => .dmemspec
  | .dspiabs _ _ _ => .dspalu
  | .dspiadd _ _ _ _ => .dspalu
  | .dspidualabs _ _ _ => .dspalu
  | .dspidualadd _ _ _ _ => .dspalu
  | .dspidualmul _ _ _ _ => .dspmul
  | .dspidualsub _ _ _ _ => .dspalu
  | .dspimul _ _ _ _ => .ifmul
  | .dspisub _ _ _ _ => .dspalu
  | .dspuadd _ _ _ _ => .dspalu
  | .dspumul _ _ _ _ => .ifmul
  | .dspuquadaddui _ _ _ _ => .dspalu
  | .dspusub _ _ _ _ => .dspalu
  | .dualasr _ _ _ _ => .shifter
  | .dualiclipi _ _ _ _ => .dspalu
  | .dualuclipi _ _ _ _ => .dspalu
  | .fabsval _ _ _ => .falu
  | .fabsvalflags _ _ _ => .falu
  | .fadd _ _ _ _ => .falu
  | .faddflags _ _ _ _ => .falu
  | .fdiv _ _ _ _ => .ftough
  | .fdivflags _ _ _ _ => .ftough
  | .feql _ _ _ _ => .fcomp
  | .feqlflags _ _ _ _ => .fcomp
  | .fgeq _ _ _ _ => .fcomp
  | .fgeqflags _ _ _ _ => .fcomp
  | .fgtr _ _ _ _ => .fcomp
  | .fgtrflags _ _ _ _ => .fcomp
  | .fleq _ _ _ _ => .fcomp
  | .fleqflags _ _ _ _ => .fcomp
  | .fles _ _ _ _ => .fcomp
  | .flesflags _ _ _ _ => .fcomp
  | .fmul _ _ _ _ => .ifmul
  | .fmulflags _ _ _ _ => .ifmul
  | .fneq _ _ _ _ => .fcomp
  | .fneqflags _ _ _ _ => .fcomp
  | .fsign _ _ _ => .fcomp
  | .fsignflags _ _ _ => .fcomp
  | .fsqrt _ _ _ => .ftough
  | .fsqrtflags _ _ _ => .ftough
  | .fsub _ _ _ _ => .falu
  | .fsubflags _ _ _ _ => .falu
  | .funshift1 _ _ _ _ => .shifter
  | .funshift2 _ _ _ _ => .shifter
  | .funshift3 _ _ _ _ => .shifter
  | .hDspiabs _ _ _ _ => .dspalu
  | .hDspidualabs _ _ _ _ => .dspalu
  | .hIabs _ _ _ _ => .alu
  | .hSt16d _ _ _ _ => .dmem
  | .hSt32d _ _ _ _ => .dmem
  | .hSt8d _ _ _ _ => .dmem
  | .hicycles _ _ => .fcomp
  | .iabs _ _ _ => .alu
  | .iadd _ _ _ _ => .alu
  | .iaddi _ _ _ _ => .alu
  | .iavgonep _ _ _ _ => .dspalu
  | .ibytesel _ _ _ _ => .alu
  | .iclipi _ _ _ _ => .dspalu
  | .iclr _ => .branch
  | .ident _ _ _ => .alu
  | .ieql _ _ _ _ => .alu
  | .ieqli _ _ _ _ => .alu
  | .ifir16 _ _ _ _ => .dspmul
  | .ifir8ii _ _ _ _ => .dspmul
  | .ifir8ui _ _ _ _ => .dspmul
  | .ifixieee _ _ _ => .falu
  | .ifixieeeflags _ _ _ => .falu
  | .ifixrz _ _ _ => .falu
  | .ifixrzflags _ _ _ => .falu
  | .iflip _ _ _ _ => .dspalu
  | .ifloat _ _ _ => .falu
  | .ifloatflags _ _ _ => .falu
  | .ifloatrz _ _ _ => .falu
  | .ifloatrzflags _ _ _ => .falu
  | .igeq _ _ _ _ => .alu
  | .igeqi _ _ _ _ => .alu
  | .igtr _ _ _ _ => .alu
  | .igtri _ _ _ _ => .alu
  | .iimm _ _ => .const
  | .ijmpf _ _ _ => .branch
  | .ijmpi _ _ => .branch
  | .ijmpt _ _ _ => .branch
  | .ild16 _ _ _ => .dmem
  | .ild16d _ _ _ _ => .dmem
  | .ild16r _ _ _ _ => .dmem
  | .ild16x _ _ _ _ => .dmem
  | .ild8 _ _ _ => .dmem
  | .ild8d _ _ _ _ => .dmem
  | .ild8r _ _ _ _ => .dmem
  | .ileq _ _ _ _ => .alu
  | .ileqi _ _ _ _ => .alu
  | .iles _ _ _ _ => .alu
  | .ilesi _ _ _ _ => .alu
  | .imax _ _ _ _ => .dspalu
  | .imin _ _ _ _ => .dspalu
  | .imul _ _ _ _ => .ifmul
  | .imulm _ _ _ _ => .ifmul
  | .ineg _ _ _ => .alu
  | .ineq _ _ _ _ => .alu
  | .ineqi _ _ _ _ => .alu
  | .inonzero _ _ _ _ => .alu
  | .isub _ _ _ _ => .alu
  | .isubi _ _ _ _ => .alu
  | .izero _ _ _ _ => .alu
  | .jmpf _ _ _ => .branch
  | .jmpi _ _ => .branch
  | .jmpt _ _ _ => .branch
  | .ld32 _ _ _ => .dmem
  | .ld32d _ _ _ _ => .dmem
  | .ld32r _ _ _ _ => .dmem
  | .ld32x _ _ _ _ => .dmem
  | .lsl _ _ _ _ => .shifter
  | .lsli _ _ _ _ => .shifter
  | .lsr _ _ _ _ => .shifter
  | .lsri _ _ _ _ => .shifter
  | .mergedual16lsb _ _ _ _ => .shifter
  | .mergelsb _ _ _ _ => .alu
  | .mergemsb _ _ _ _ => .alu
  | .nop => .none
  | .pack16lsb _ _ _ _ => .alu
  | .pack16msb _ _ _ _ => .alu
  | .packbytes _ _ _ _ => .alu
  | .pref _ _ => .dmemspec
  | .pref16x _ _ _ => .dmemspec
  | .pref32x _ _ _ => .dmemspec
  | .prefd _ _ _ => .dmemspec
  | .prefr _ _ _ => .dmemspec
  | .quadavg _ _ _ _ => .dspalu
  | .quadumax _ _ _ _ => .dspalu
  | .quadumin _ _ _ _ => .dspalu
  | .quadumulmsb _ _ _ _ => .dspmul
  | .rdstatus _ _ _ _ => .dmemspec
  | .rdtag _ _ _ _ => .dmemspec
  | .readdpc _ _ => .fcomp
  | .readpcsw _ _ => .fcomp
  | .readspc _ _ => .fcomp
  | .rol _ _ _ _ => .shifter
  | .roli _ _ _ _ => .shifter
  | .sex16 _ _ _ => .alu
  | .sex8 _ _ _ => .alu
  | .st16 _ _ _ => .dmem
  | .st16d _ _ _ _ => .dmem
  | .st32 _ _ _ => .dmem
  | .st32d _ _ _ _ => .dmem
  | .st8 _ _ _ => .dmem
  | .st8d _ _ _ _ => .dmem
  | .ubytesel _ _ _ _ => .alu
  | .uclipi _ _ _ _ => .dspalu
  | .uclipu _ _ _ _ => .dspalu
  | .ueql _ _ _ _ => .alu
  | .ueqli _ _ _ _ => .alu
  | .ufir16 _ _ _ _ => .dspmul
  | .ufir8uu _ _ _ _ => .dspmul
  | .ufixieee _ _ _ => .falu
  | .ufixieeeflags _ _ _ => .falu
  | .ufixrz _ _ _ => .falu
  | .ufixrzflags _ _ _ => .falu
  | .ufloat _ _ _ => .falu
  | .ufloatflags _ _ _ => .falu
  | .ufloatrz _ _ _ => .falu
  | .ufloatrzflags _ _ _ => .falu
  | .ugeq _ _ _ _ => .alu
  | .ugeqi _ _ _ _ => .alu
  | .ugtr _ _ _ _ => .alu
  | .ugtri _ _ _ _ => .alu
  | .uimm _ _ => .const
  | .uld16 _ _ _ => .dmem
  | .uld16d _ _ _ _ => .dmem
  | .uld16r _ _ _ _ => .dmem
  | .uld16x _ _ _ _ => .dmem
  | .uld8 _ _ _ => .dmem
  | .uld8d _ _ _ _ => .dmem
  | .uld8r _ _ _ _ => .dmem
  | .uleq _ _ _ _ => .alu
  | .uleqi _ _ _ _ => .alu
  | .ules _ _ _ _ => .alu
  | .ulesi _ _ _ _ => .alu
  | .ume8ii _ _ _ _ => .dspalu
  | .ume8uu _ _ _ _ => .dspalu
  | .umin _ _ _ _ => .dspalu
  | .umul _ _ _ _ => .ifmul
  | .umulm _ _ _ _ => .ifmul
  | .uneq _ _ _ _ => .alu
  | .uneqi _ _ _ _ => .alu
  | .writedpc _ _ => .fcomp
  | .writepcsw _ _ _ => .fcomp
  | .writespc _ _ => .fcomp
  | .zex16 _ _ _ => .alu
  | .zex8 _ _ _ => .alu

/-- The modifier of an operation (R187). -/
def Instr.modifier : Instr → Modifier
  | .alloc _ _ => .none
  | .allocd _ m _ => .disp4 m
  | .allocr _ _ _ => .none
  | .allocx _ _ _ => .none
  | .asl _ _ _ _ => .none
  | .asli _ m _ _ => .shift m
  | .asr _ _ _ _ => .none
  | .asri _ m _ _ => .shift m
  | .bitand _ _ _ _ => .none
  | .bitandinv _ _ _ _ => .none
  | .bitinv _ _ _ => .none
  | .bitor _ _ _ _ => .none
  | .bitxor _ _ _ _ => .none
  | .borrow _ _ _ _ => .none
  | .carry _ _ _ _ => .none
  | .curcycles _ _ => .none
  | .cycles _ _ => .none
  | .dcb _ m _ => .disp4 m
  | .dinvalid _ m _ => .disp4 m
  | .dspiabs _ _ _ => .none
  | .dspiadd _ _ _ _ => .none
  | .dspidualabs _ _ _ => .none
  | .dspidualadd _ _ _ _ => .none
  | .dspidualmul _ _ _ _ => .none
  | .dspidualsub _ _ _ _ => .none
  | .dspimul _ _ _ _ => .none
  | .dspisub _ _ _ _ => .none
  | .dspuadd _ _ _ _ => .none
  | .dspumul _ _ _ _ => .none
  | .dspuquadaddui _ _ _ _ => .none
  | .dspusub _ _ _ _ => .none
  | .dualasr _ _ _ _ => .none
  | .dualiclipi _ _ _ _ => .none
  | .dualuclipi _ _ _ _ => .none
  | .fabsval _ _ _ => .none
  | .fabsvalflags _ _ _ => .none
  | .fadd _ _ _ _ => .none
  | .faddflags _ _ _ _ => .none
  | .fdiv _ _ _ _ => .none
  | .fdivflags _ _ _ _ => .none
  | .feql _ _ _ _ => .none
  | .feqlflags _ _ _ _ => .none
  | .fgeq _ _ _ _ => .none
  | .fgeqflags _ _ _ _ => .none
  | .fgtr _ _ _ _ => .none
  | .fgtrflags _ _ _ _ => .none
  | .fleq _ _ _ _ => .none
  | .fleqflags _ _ _ _ => .none
  | .fles _ _ _ _ => .none
  | .flesflags _ _ _ _ => .none
  | .fmul _ _ _ _ => .none
  | .fmulflags _ _ _ _ => .none
  | .fneq _ _ _ _ => .none
  | .fneqflags _ _ _ _ => .none
  | .fsign _ _ _ => .none
  | .fsignflags _ _ _ => .none
  | .fsqrt _ _ _ => .none
  | .fsqrtflags _ _ _ => .none
  | .fsub _ _ _ _ => .none
  | .fsubflags _ _ _ _ => .none
  | .funshift1 _ _ _ _ => .none
  | .funshift2 _ _ _ _ => .none
  | .funshift3 _ _ _ _ => .none
  | .hDspiabs _ _ _ _ => .none
  | .hDspidualabs _ _ _ _ => .none
  | .hIabs _ _ _ _ => .none
  | .hSt16d _ m _ _ => .disp2 m
  | .hSt32d _ m _ _ => .disp4 m
  | .hSt8d _ m _ _ => .disp1 m
  | .hicycles _ _ => .none
  | .iabs _ _ _ => .none
  | .iadd _ _ _ _ => .none
  | .iaddi _ m _ _ => .uimm m
  | .iavgonep _ _ _ _ => .none
  | .ibytesel _ _ _ _ => .none
  | .iclipi _ _ _ _ => .none
  | .iclr _ => .none
  | .ident _ _ _ => .none
  | .ieql _ _ _ _ => .none
  | .ieqli _ m _ _ => .simm m
  | .ifir16 _ _ _ _ => .none
  | .ifir8ii _ _ _ _ => .none
  | .ifir8ui _ _ _ _ => .none
  | .ifixieee _ _ _ => .none
  | .ifixieeeflags _ _ _ => .none
  | .ifixrz _ _ _ => .none
  | .ifixrzflags _ _ _ => .none
  | .iflip _ _ _ _ => .none
  | .ifloat _ _ _ => .none
  | .ifloatflags _ _ _ => .none
  | .ifloatrz _ _ _ => .none
  | .ifloatrzflags _ _ _ => .none
  | .igeq _ _ _ _ => .none
  | .igeqi _ m _ _ => .simm m
  | .igtr _ _ _ _ => .none
  | .igtri _ m _ _ => .simm m
  | .iimm m _ => .imm32 m
  | .ijmpf _ _ _ => .none
  | .ijmpi _ a => .addr a
  | .ijmpt _ _ _ => .none
  | .ild16 _ _ _ => .none
  | .ild16d _ m _ _ => .disp2 m
  | .ild16r _ _ _ _ => .none
  | .ild16x _ _ _ _ => .none
  | .ild8 _ _ _ => .none
  | .ild8d _ m _ _ => .disp1 m
  | .ild8r _ _ _ _ => .none
  | .ileq _ _ _ _ => .none
  | .ileqi _ m _ _ => .simm m
  | .iles _ _ _ _ => .none
  | .ilesi _ m _ _ => .simm m
  | .imax _ _ _ _ => .none
  | .imin _ _ _ _ => .none
  | .imul _ _ _ _ => .none
  | .imulm _ _ _ _ => .none
  | .ineg _ _ _ => .none
  | .ineq _ _ _ _ => .none
  | .ineqi _ m _ _ => .simm m
  | .inonzero _ _ _ _ => .none
  | .isub _ _ _ _ => .none
  | .isubi _ m _ _ => .uimm m
  | .izero _ _ _ _ => .none
  | .jmpf _ _ _ => .none
  | .jmpi _ a => .addr a
  | .jmpt _ _ _ => .none
  | .ld32 _ _ _ => .none
  | .ld32d _ m _ _ => .disp4 m
  | .ld32r _ _ _ _ => .none
  | .ld32x _ _ _ _ => .none
  | .lsl _ _ _ _ => .none
  | .lsli _ m _ _ => .shift m
  | .lsr _ _ _ _ => .none
  | .lsri _ m _ _ => .shift m
  | .mergedual16lsb _ _ _ _ => .none
  | .mergelsb _ _ _ _ => .none
  | .mergemsb _ _ _ _ => .none
  | .nop => .none
  | .pack16lsb _ _ _ _ => .none
  | .pack16msb _ _ _ _ => .none
  | .packbytes _ _ _ _ => .none
  | .pref _ _ => .none
  | .pref16x _ _ _ => .none
  | .pref32x _ _ _ => .none
  | .prefd _ m _ => .disp4 m
  | .prefr _ _ _ => .none
  | .quadavg _ _ _ _ => .none
  | .quadumax _ _ _ _ => .none
  | .quadumin _ _ _ _ => .none
  | .quadumulmsb _ _ _ _ => .none
  | .rdstatus _ m _ _ => .disp4 m
  | .rdtag _ m _ _ => .disp4 m
  | .readdpc _ _ => .none
  | .readpcsw _ _ => .none
  | .readspc _ _ => .none
  | .rol _ _ _ _ => .none
  | .roli _ m _ _ => .shift m
  | .sex16 _ _ _ => .none
  | .sex8 _ _ _ => .none
  | .st16 _ _ _ => .none
  | .st16d _ m _ _ => .disp2 m
  | .st32 _ _ _ => .none
  | .st32d _ m _ _ => .disp4 m
  | .st8 _ _ _ => .none
  | .st8d _ m _ _ => .disp1 m
  | .ubytesel _ _ _ _ => .none
  | .uclipi _ _ _ _ => .none
  | .uclipu _ _ _ _ => .none
  | .ueql _ _ _ _ => .none
  | .ueqli _ m _ _ => .uimm m
  | .ufir16 _ _ _ _ => .none
  | .ufir8uu _ _ _ _ => .none
  | .ufixieee _ _ _ => .none
  | .ufixieeeflags _ _ _ => .none
  | .ufixrz _ _ _ => .none
  | .ufixrzflags _ _ _ => .none
  | .ufloat _ _ _ => .none
  | .ufloatflags _ _ _ => .none
  | .ufloatrz _ _ _ => .none
  | .ufloatrzflags _ _ _ => .none
  | .ugeq _ _ _ _ => .none
  | .ugeqi _ m _ _ => .uimm m
  | .ugtr _ _ _ _ => .none
  | .ugtri _ m _ _ => .uimm m
  | .uimm m _ => .uimm32 m
  | .uld16 _ _ _ => .none
  | .uld16d _ m _ _ => .disp2 m
  | .uld16r _ _ _ _ => .none
  | .uld16x _ _ _ _ => .none
  | .uld8 _ _ _ => .none
  | .uld8d _ m _ _ => .disp1 m
  | .uld8r _ _ _ _ => .none
  | .uleq _ _ _ _ => .none
  | .uleqi _ m _ _ => .uimm m
  | .ules _ _ _ _ => .none
  | .ulesi _ m _ _ => .uimm m
  | .ume8ii _ _ _ _ => .none
  | .ume8uu _ _ _ _ => .none
  | .umin _ _ _ _ => .none
  | .umul _ _ _ _ => .none
  | .umulm _ _ _ _ => .none
  | .uneq _ _ _ _ => .none
  | .uneqi _ m _ _ => .uimm m
  | .writedpc _ _ => .none
  | .writepcsw _ _ _ => .none
  | .writespc _ _ => .none
  | .zex16 _ _ _ => .none
  | .zex8 _ _ _ => .none

/-- The guard register; none for iimm, uimm and nop, which are not guarded (R36, R186). -/
def Instr.guard? : Instr → Option Reg
  | .alloc g _ => some g
  | .allocd g _ _ => some g
  | .allocr g _ _ => some g
  | .allocx g _ _ => some g
  | .asl g _ _ _ => some g
  | .asli g _ _ _ => some g
  | .asr g _ _ _ => some g
  | .asri g _ _ _ => some g
  | .bitand g _ _ _ => some g
  | .bitandinv g _ _ _ => some g
  | .bitinv g _ _ => some g
  | .bitor g _ _ _ => some g
  | .bitxor g _ _ _ => some g
  | .borrow g _ _ _ => some g
  | .carry g _ _ _ => some g
  | .curcycles g _ => some g
  | .cycles g _ => some g
  | .dcb g _ _ => some g
  | .dinvalid g _ _ => some g
  | .dspiabs g _ _ => some g
  | .dspiadd g _ _ _ => some g
  | .dspidualabs g _ _ => some g
  | .dspidualadd g _ _ _ => some g
  | .dspidualmul g _ _ _ => some g
  | .dspidualsub g _ _ _ => some g
  | .dspimul g _ _ _ => some g
  | .dspisub g _ _ _ => some g
  | .dspuadd g _ _ _ => some g
  | .dspumul g _ _ _ => some g
  | .dspuquadaddui g _ _ _ => some g
  | .dspusub g _ _ _ => some g
  | .dualasr g _ _ _ => some g
  | .dualiclipi g _ _ _ => some g
  | .dualuclipi g _ _ _ => some g
  | .fabsval g _ _ => some g
  | .fabsvalflags g _ _ => some g
  | .fadd g _ _ _ => some g
  | .faddflags g _ _ _ => some g
  | .fdiv g _ _ _ => some g
  | .fdivflags g _ _ _ => some g
  | .feql g _ _ _ => some g
  | .feqlflags g _ _ _ => some g
  | .fgeq g _ _ _ => some g
  | .fgeqflags g _ _ _ => some g
  | .fgtr g _ _ _ => some g
  | .fgtrflags g _ _ _ => some g
  | .fleq g _ _ _ => some g
  | .fleqflags g _ _ _ => some g
  | .fles g _ _ _ => some g
  | .flesflags g _ _ _ => some g
  | .fmul g _ _ _ => some g
  | .fmulflags g _ _ _ => some g
  | .fneq g _ _ _ => some g
  | .fneqflags g _ _ _ => some g
  | .fsign g _ _ => some g
  | .fsignflags g _ _ => some g
  | .fsqrt g _ _ => some g
  | .fsqrtflags g _ _ => some g
  | .fsub g _ _ _ => some g
  | .fsubflags g _ _ _ => some g
  | .funshift1 g _ _ _ => some g
  | .funshift2 g _ _ _ => some g
  | .funshift3 g _ _ _ => some g
  | .hDspiabs g _ _ _ => some g
  | .hDspidualabs g _ _ _ => some g
  | .hIabs g _ _ _ => some g
  | .hSt16d g _ _ _ => some g
  | .hSt32d g _ _ _ => some g
  | .hSt8d g _ _ _ => some g
  | .hicycles g _ => some g
  | .iabs g _ _ => some g
  | .iadd g _ _ _ => some g
  | .iaddi g _ _ _ => some g
  | .iavgonep g _ _ _ => some g
  | .ibytesel g _ _ _ => some g
  | .iclipi g _ _ _ => some g
  | .iclr g => some g
  | .ident g _ _ => some g
  | .ieql g _ _ _ => some g
  | .ieqli g _ _ _ => some g
  | .ifir16 g _ _ _ => some g
  | .ifir8ii g _ _ _ => some g
  | .ifir8ui g _ _ _ => some g
  | .ifixieee g _ _ => some g
  | .ifixieeeflags g _ _ => some g
  | .ifixrz g _ _ => some g
  | .ifixrzflags g _ _ => some g
  | .iflip g _ _ _ => some g
  | .ifloat g _ _ => some g
  | .ifloatflags g _ _ => some g
  | .ifloatrz g _ _ => some g
  | .ifloatrzflags g _ _ => some g
  | .igeq g _ _ _ => some g
  | .igeqi g _ _ _ => some g
  | .igtr g _ _ _ => some g
  | .igtri g _ _ _ => some g
  | .iimm _ _ => none
  | .ijmpf g _ _ => some g
  | .ijmpi g _ => some g
  | .ijmpt g _ _ => some g
  | .ild16 g _ _ => some g
  | .ild16d g _ _ _ => some g
  | .ild16r g _ _ _ => some g
  | .ild16x g _ _ _ => some g
  | .ild8 g _ _ => some g
  | .ild8d g _ _ _ => some g
  | .ild8r g _ _ _ => some g
  | .ileq g _ _ _ => some g
  | .ileqi g _ _ _ => some g
  | .iles g _ _ _ => some g
  | .ilesi g _ _ _ => some g
  | .imax g _ _ _ => some g
  | .imin g _ _ _ => some g
  | .imul g _ _ _ => some g
  | .imulm g _ _ _ => some g
  | .ineg g _ _ => some g
  | .ineq g _ _ _ => some g
  | .ineqi g _ _ _ => some g
  | .inonzero g _ _ _ => some g
  | .isub g _ _ _ => some g
  | .isubi g _ _ _ => some g
  | .izero g _ _ _ => some g
  | .jmpf g _ _ => some g
  | .jmpi g _ => some g
  | .jmpt g _ _ => some g
  | .ld32 g _ _ => some g
  | .ld32d g _ _ _ => some g
  | .ld32r g _ _ _ => some g
  | .ld32x g _ _ _ => some g
  | .lsl g _ _ _ => some g
  | .lsli g _ _ _ => some g
  | .lsr g _ _ _ => some g
  | .lsri g _ _ _ => some g
  | .mergedual16lsb g _ _ _ => some g
  | .mergelsb g _ _ _ => some g
  | .mergemsb g _ _ _ => some g
  | .nop => none
  | .pack16lsb g _ _ _ => some g
  | .pack16msb g _ _ _ => some g
  | .packbytes g _ _ _ => some g
  | .pref g _ => some g
  | .pref16x g _ _ => some g
  | .pref32x g _ _ => some g
  | .prefd g _ _ => some g
  | .prefr g _ _ => some g
  | .quadavg g _ _ _ => some g
  | .quadumax g _ _ _ => some g
  | .quadumin g _ _ _ => some g
  | .quadumulmsb g _ _ _ => some g
  | .rdstatus g _ _ _ => some g
  | .rdtag g _ _ _ => some g
  | .readdpc g _ => some g
  | .readpcsw g _ => some g
  | .readspc g _ => some g
  | .rol g _ _ _ => some g
  | .roli g _ _ _ => some g
  | .sex16 g _ _ => some g
  | .sex8 g _ _ => some g
  | .st16 g _ _ => some g
  | .st16d g _ _ _ => some g
  | .st32 g _ _ => some g
  | .st32d g _ _ _ => some g
  | .st8 g _ _ => some g
  | .st8d g _ _ _ => some g
  | .ubytesel g _ _ _ => some g
  | .uclipi g _ _ _ => some g
  | .uclipu g _ _ _ => some g
  | .ueql g _ _ _ => some g
  | .ueqli g _ _ _ => some g
  | .ufir16 g _ _ _ => some g
  | .ufir8uu g _ _ _ => some g
  | .ufixieee g _ _ => some g
  | .ufixieeeflags g _ _ => some g
  | .ufixrz g _ _ => some g
  | .ufixrzflags g _ _ => some g
  | .ufloat g _ _ => some g
  | .ufloatflags g _ _ => some g
  | .ufloatrz g _ _ => some g
  | .ufloatrzflags g _ _ => some g
  | .ugeq g _ _ _ => some g
  | .ugeqi g _ _ _ => some g
  | .ugtr g _ _ _ => some g
  | .ugtri g _ _ _ => some g
  | .uimm _ _ => none
  | .uld16 g _ _ => some g
  | .uld16d g _ _ _ => some g
  | .uld16r g _ _ _ => some g
  | .uld16x g _ _ _ => some g
  | .uld8 g _ _ => some g
  | .uld8d g _ _ _ => some g
  | .uld8r g _ _ _ => some g
  | .uleq g _ _ _ => some g
  | .uleqi g _ _ _ => some g
  | .ules g _ _ _ => some g
  | .ulesi g _ _ _ => some g
  | .ume8ii g _ _ _ => some g
  | .ume8uu g _ _ _ => some g
  | .umin g _ _ _ => some g
  | .umul g _ _ _ => some g
  | .umulm g _ _ _ => some g
  | .uneq g _ _ _ => some g
  | .uneqi g _ _ _ => some g
  | .writedpc g _ => some g
  | .writepcsw g _ _ => some g
  | .writespc g _ => some g
  | .zex16 g _ _ => some g
  | .zex8 g _ _ => some g

/-- The destination register of an operation, where it has one (R183). -/
def Instr.dest? : Instr → Option Reg
  | .alloc _ _ => none
  | .allocd _ _ _ => none
  | .allocr _ _ _ => none
  | .allocx _ _ _ => none
  | .asl _ _ _ d => some d
  | .asli _ _ _ d => some d
  | .asr _ _ _ d => some d
  | .asri _ _ _ d => some d
  | .bitand _ _ _ d => some d
  | .bitandinv _ _ _ d => some d
  | .bitinv _ _ d => some d
  | .bitor _ _ _ d => some d
  | .bitxor _ _ _ d => some d
  | .borrow _ _ _ d => some d
  | .carry _ _ _ d => some d
  | .curcycles _ d => some d
  | .cycles _ d => some d
  | .dcb _ _ _ => none
  | .dinvalid _ _ _ => none
  | .dspiabs _ _ d => some d
  | .dspiadd _ _ _ d => some d
  | .dspidualabs _ _ d => some d
  | .dspidualadd _ _ _ d => some d
  | .dspidualmul _ _ _ d => some d
  | .dspidualsub _ _ _ d => some d
  | .dspimul _ _ _ d => some d
  | .dspisub _ _ _ d => some d
  | .dspuadd _ _ _ d => some d
  | .dspumul _ _ _ d => some d
  | .dspuquadaddui _ _ _ d => some d
  | .dspusub _ _ _ d => some d
  | .dualasr _ _ _ d => some d
  | .dualiclipi _ _ _ d => some d
  | .dualuclipi _ _ _ d => some d
  | .fabsval _ _ d => some d
  | .fabsvalflags _ _ d => some d
  | .fadd _ _ _ d => some d
  | .faddflags _ _ _ d => some d
  | .fdiv _ _ _ d => some d
  | .fdivflags _ _ _ d => some d
  | .feql _ _ _ d => some d
  | .feqlflags _ _ _ d => some d
  | .fgeq _ _ _ d => some d
  | .fgeqflags _ _ _ d => some d
  | .fgtr _ _ _ d => some d
  | .fgtrflags _ _ _ d => some d
  | .fleq _ _ _ d => some d
  | .fleqflags _ _ _ d => some d
  | .fles _ _ _ d => some d
  | .flesflags _ _ _ d => some d
  | .fmul _ _ _ d => some d
  | .fmulflags _ _ _ d => some d
  | .fneq _ _ _ d => some d
  | .fneqflags _ _ _ d => some d
  | .fsign _ _ d => some d
  | .fsignflags _ _ d => some d
  | .fsqrt _ _ d => some d
  | .fsqrtflags _ _ d => some d
  | .fsub _ _ _ d => some d
  | .fsubflags _ _ _ d => some d
  | .funshift1 _ _ _ d => some d
  | .funshift2 _ _ _ d => some d
  | .funshift3 _ _ _ d => some d
  | .hDspiabs _ _ _ d => some d
  | .hDspidualabs _ _ _ d => some d
  | .hIabs _ _ _ d => some d
  | .hSt16d _ _ _ _ => none
  | .hSt32d _ _ _ _ => none
  | .hSt8d _ _ _ _ => none
  | .hicycles _ d => some d
  | .iabs _ _ d => some d
  | .iadd _ _ _ d => some d
  | .iaddi _ _ _ d => some d
  | .iavgonep _ _ _ d => some d
  | .ibytesel _ _ _ d => some d
  | .iclipi _ _ _ d => some d
  | .iclr _ => none
  | .ident _ _ d => some d
  | .ieql _ _ _ d => some d
  | .ieqli _ _ _ d => some d
  | .ifir16 _ _ _ d => some d
  | .ifir8ii _ _ _ d => some d
  | .ifir8ui _ _ _ d => some d
  | .ifixieee _ _ d => some d
  | .ifixieeeflags _ _ d => some d
  | .ifixrz _ _ d => some d
  | .ifixrzflags _ _ d => some d
  | .iflip _ _ _ d => some d
  | .ifloat _ _ d => some d
  | .ifloatflags _ _ d => some d
  | .ifloatrz _ _ d => some d
  | .ifloatrzflags _ _ d => some d
  | .igeq _ _ _ d => some d
  | .igeqi _ _ _ d => some d
  | .igtr _ _ _ d => some d
  | .igtri _ _ _ d => some d
  | .iimm _ d => some d
  | .ijmpf _ _ _ => none
  | .ijmpi _ _ => none
  | .ijmpt _ _ _ => none
  | .ild16 _ _ d => some d
  | .ild16d _ _ _ d => some d
  | .ild16r _ _ _ d => some d
  | .ild16x _ _ _ d => some d
  | .ild8 _ _ d => some d
  | .ild8d _ _ _ d => some d
  | .ild8r _ _ _ d => some d
  | .ileq _ _ _ d => some d
  | .ileqi _ _ _ d => some d
  | .iles _ _ _ d => some d
  | .ilesi _ _ _ d => some d
  | .imax _ _ _ d => some d
  | .imin _ _ _ d => some d
  | .imul _ _ _ d => some d
  | .imulm _ _ _ d => some d
  | .ineg _ _ d => some d
  | .ineq _ _ _ d => some d
  | .ineqi _ _ _ d => some d
  | .inonzero _ _ _ d => some d
  | .isub _ _ _ d => some d
  | .isubi _ _ _ d => some d
  | .izero _ _ _ d => some d
  | .jmpf _ _ _ => none
  | .jmpi _ _ => none
  | .jmpt _ _ _ => none
  | .ld32 _ _ d => some d
  | .ld32d _ _ _ d => some d
  | .ld32r _ _ _ d => some d
  | .ld32x _ _ _ d => some d
  | .lsl _ _ _ d => some d
  | .lsli _ _ _ d => some d
  | .lsr _ _ _ d => some d
  | .lsri _ _ _ d => some d
  | .mergedual16lsb _ _ _ d => some d
  | .mergelsb _ _ _ d => some d
  | .mergemsb _ _ _ d => some d
  | .nop => none
  | .pack16lsb _ _ _ d => some d
  | .pack16msb _ _ _ d => some d
  | .packbytes _ _ _ d => some d
  | .pref _ _ => none
  | .pref16x _ _ _ => none
  | .pref32x _ _ _ => none
  | .prefd _ _ _ => none
  | .prefr _ _ _ => none
  | .quadavg _ _ _ d => some d
  | .quadumax _ _ _ d => some d
  | .quadumin _ _ _ d => some d
  | .quadumulmsb _ _ _ d => some d
  | .rdstatus _ _ _ d => some d
  | .rdtag _ _ _ d => some d
  | .readdpc _ d => some d
  | .readpcsw _ d => some d
  | .readspc _ d => some d
  | .rol _ _ _ d => some d
  | .roli _ _ _ d => some d
  | .sex16 _ _ d => some d
  | .sex8 _ _ d => some d
  | .st16 _ _ _ => none
  | .st16d _ _ _ _ => none
  | .st32 _ _ _ => none
  | .st32d _ _ _ _ => none
  | .st8 _ _ _ => none
  | .st8d _ _ _ _ => none
  | .ubytesel _ _ _ d => some d
  | .uclipi _ _ _ d => some d
  | .uclipu _ _ _ d => some d
  | .ueql _ _ _ d => some d
  | .ueqli _ _ _ d => some d
  | .ufir16 _ _ _ d => some d
  | .ufir8uu _ _ _ d => some d
  | .ufixieee _ _ d => some d
  | .ufixieeeflags _ _ d => some d
  | .ufixrz _ _ d => some d
  | .ufixrzflags _ _ d => some d
  | .ufloat _ _ d => some d
  | .ufloatflags _ _ d => some d
  | .ufloatrz _ _ d => some d
  | .ufloatrzflags _ _ d => some d
  | .ugeq _ _ _ d => some d
  | .ugeqi _ _ _ d => some d
  | .ugtr _ _ _ d => some d
  | .ugtri _ _ _ d => some d
  | .uimm _ d => some d
  | .uld16 _ _ d => some d
  | .uld16d _ _ _ d => some d
  | .uld16r _ _ _ d => some d
  | .uld16x _ _ _ d => some d
  | .uld8 _ _ d => some d
  | .uld8d _ _ _ d => some d
  | .uld8r _ _ _ d => some d
  | .uleq _ _ _ d => some d
  | .uleqi _ _ _ d => some d
  | .ules _ _ _ d => some d
  | .ulesi _ _ _ d => some d
  | .ume8ii _ _ _ d => some d
  | .ume8uu _ _ _ d => some d
  | .umin _ _ _ d => some d
  | .umul _ _ _ d => some d
  | .umulm _ _ _ d => some d
  | .uneq _ _ _ d => some d
  | .uneqi _ _ _ d => some d
  | .writedpc _ _ => none
  | .writepcsw _ _ _ => none
  | .writespc _ _ => none
  | .zex16 _ _ d => some d
  | .zex8 _ _ d => some d

/-- The source that the operation requires to be r0 (R189, U14). -/
def Instr.zeroSource? : Instr → Option Reg
  | .alloc _ _ => none
  | .allocd _ _ _ => none
  | .allocr _ _ _ => none
  | .allocx _ _ _ => none
  | .asl _ _ _ _ => none
  | .asli _ _ _ _ => none
  | .asr _ _ _ _ => none
  | .asri _ _ _ _ => none
  | .bitand _ _ _ _ => none
  | .bitandinv _ _ _ _ => none
  | .bitinv _ _ _ => none
  | .bitor _ _ _ _ => none
  | .bitxor _ _ _ _ => none
  | .borrow _ _ _ _ => none
  | .carry _ _ _ _ => none
  | .curcycles _ _ => none
  | .cycles _ _ => none
  | .dcb _ _ _ => none
  | .dinvalid _ _ _ => none
  | .dspiabs _ _ _ => none
  | .dspiadd _ _ _ _ => none
  | .dspidualabs _ _ _ => none
  | .dspidualadd _ _ _ _ => none
  | .dspidualmul _ _ _ _ => none
  | .dspidualsub _ _ _ _ => none
  | .dspimul _ _ _ _ => none
  | .dspisub _ _ _ _ => none
  | .dspuadd _ _ _ _ => none
  | .dspumul _ _ _ _ => none
  | .dspuquadaddui _ _ _ _ => none
  | .dspusub _ _ _ _ => none
  | .dualasr _ _ _ _ => none
  | .dualiclipi _ _ _ _ => none
  | .dualuclipi _ _ _ _ => none
  | .fabsval _ _ _ => none
  | .fabsvalflags _ _ _ => none
  | .fadd _ _ _ _ => none
  | .faddflags _ _ _ _ => none
  | .fdiv _ _ _ _ => none
  | .fdivflags _ _ _ _ => none
  | .feql _ _ _ _ => none
  | .feqlflags _ _ _ _ => none
  | .fgeq _ _ _ _ => none
  | .fgeqflags _ _ _ _ => none
  | .fgtr _ _ _ _ => none
  | .fgtrflags _ _ _ _ => none
  | .fleq _ _ _ _ => none
  | .fleqflags _ _ _ _ => none
  | .fles _ _ _ _ => none
  | .flesflags _ _ _ _ => none
  | .fmul _ _ _ _ => none
  | .fmulflags _ _ _ _ => none
  | .fneq _ _ _ _ => none
  | .fneqflags _ _ _ _ => none
  | .fsign _ _ _ => none
  | .fsignflags _ _ _ => none
  | .fsqrt _ _ _ => none
  | .fsqrtflags _ _ _ => none
  | .fsub _ _ _ _ => none
  | .fsubflags _ _ _ _ => none
  | .funshift1 _ _ _ _ => none
  | .funshift2 _ _ _ _ => none
  | .funshift3 _ _ _ _ => none
  | .hDspiabs _ s1 _ _ => some s1
  | .hDspidualabs _ s1 _ _ => some s1
  | .hIabs _ s1 _ _ => some s1
  | .hSt16d _ _ _ _ => none
  | .hSt32d _ _ _ _ => none
  | .hSt8d _ _ _ _ => none
  | .hicycles _ _ => none
  | .iabs _ _ _ => none
  | .iadd _ _ _ _ => none
  | .iaddi _ _ _ _ => none
  | .iavgonep _ _ _ _ => none
  | .ibytesel _ _ _ _ => none
  | .iclipi _ _ _ _ => none
  | .iclr _ => none
  | .ident _ _ _ => none
  | .ieql _ _ _ _ => none
  | .ieqli _ _ _ _ => none
  | .ifir16 _ _ _ _ => none
  | .ifir8ii _ _ _ _ => none
  | .ifir8ui _ _ _ _ => none
  | .ifixieee _ _ _ => none
  | .ifixieeeflags _ _ _ => none
  | .ifixrz _ _ _ => none
  | .ifixrzflags _ _ _ => none
  | .iflip _ _ _ _ => none
  | .ifloat _ _ _ => none
  | .ifloatflags _ _ _ => none
  | .ifloatrz _ _ _ => none
  | .ifloatrzflags _ _ _ => none
  | .igeq _ _ _ _ => none
  | .igeqi _ _ _ _ => none
  | .igtr _ _ _ _ => none
  | .igtri _ _ _ _ => none
  | .iimm _ _ => none
  | .ijmpf _ _ _ => none
  | .ijmpi _ _ => none
  | .ijmpt _ _ _ => none
  | .ild16 _ _ _ => none
  | .ild16d _ _ _ _ => none
  | .ild16r _ _ _ _ => none
  | .ild16x _ _ _ _ => none
  | .ild8 _ _ _ => none
  | .ild8d _ _ _ _ => none
  | .ild8r _ _ _ _ => none
  | .ileq _ _ _ _ => none
  | .ileqi _ _ _ _ => none
  | .iles _ _ _ _ => none
  | .ilesi _ _ _ _ => none
  | .imax _ _ _ _ => none
  | .imin _ _ _ _ => none
  | .imul _ _ _ _ => none
  | .imulm _ _ _ _ => none
  | .ineg _ _ _ => none
  | .ineq _ _ _ _ => none
  | .ineqi _ _ _ _ => none
  | .inonzero _ _ _ _ => none
  | .isub _ _ _ _ => none
  | .isubi _ _ _ _ => none
  | .izero _ _ _ _ => none
  | .jmpf _ _ _ => none
  | .jmpi _ _ => none
  | .jmpt _ _ _ => none
  | .ld32 _ _ _ => none
  | .ld32d _ _ _ _ => none
  | .ld32r _ _ _ _ => none
  | .ld32x _ _ _ _ => none
  | .lsl _ _ _ _ => none
  | .lsli _ _ _ _ => none
  | .lsr _ _ _ _ => none
  | .lsri _ _ _ _ => none
  | .mergedual16lsb _ _ _ _ => none
  | .mergelsb _ _ _ _ => none
  | .mergemsb _ _ _ _ => none
  | .nop => none
  | .pack16lsb _ _ _ _ => none
  | .pack16msb _ _ _ _ => none
  | .packbytes _ _ _ _ => none
  | .pref _ _ => none
  | .pref16x _ _ _ => none
  | .pref32x _ _ _ => none
  | .prefd _ _ _ => none
  | .prefr _ _ _ => none
  | .quadavg _ _ _ _ => none
  | .quadumax _ _ _ _ => none
  | .quadumin _ _ _ _ => none
  | .quadumulmsb _ _ _ _ => none
  | .rdstatus _ _ _ _ => none
  | .rdtag _ _ _ _ => none
  | .readdpc _ _ => none
  | .readpcsw _ _ => none
  | .readspc _ _ => none
  | .rol _ _ _ _ => none
  | .roli _ _ _ _ => none
  | .sex16 _ _ _ => none
  | .sex8 _ _ _ => none
  | .st16 _ _ _ => none
  | .st16d _ _ _ _ => none
  | .st32 _ _ _ => none
  | .st32d _ _ _ _ => none
  | .st8 _ _ _ => none
  | .st8d _ _ _ _ => none
  | .ubytesel _ _ _ _ => none
  | .uclipi _ _ _ _ => none
  | .uclipu _ _ _ _ => none
  | .ueql _ _ _ _ => none
  | .ueqli _ _ _ _ => none
  | .ufir16 _ _ _ _ => none
  | .ufir8uu _ _ _ _ => none
  | .ufixieee _ _ _ => none
  | .ufixieeeflags _ _ _ => none
  | .ufixrz _ _ _ => none
  | .ufixrzflags _ _ _ => none
  | .ufloat _ _ _ => none
  | .ufloatflags _ _ _ => none
  | .ufloatrz _ _ _ => none
  | .ufloatrzflags _ _ _ => none
  | .ugeq _ _ _ _ => none
  | .ugeqi _ _ _ _ => none
  | .ugtr _ _ _ _ => none
  | .ugtri _ _ _ _ => none
  | .uimm _ _ => none
  | .uld16 _ _ _ => none
  | .uld16d _ _ _ _ => none
  | .uld16r _ _ _ _ => none
  | .uld16x _ _ _ _ => none
  | .uld8 _ _ _ => none
  | .uld8d _ _ _ _ => none
  | .uld8r _ _ _ _ => none
  | .uleq _ _ _ _ => none
  | .uleqi _ _ _ _ => none
  | .ules _ _ _ _ => none
  | .ulesi _ _ _ _ => none
  | .ume8ii _ _ _ _ => none
  | .ume8uu _ _ _ _ => none
  | .umin _ _ _ _ => none
  | .umul _ _ _ _ => none
  | .umulm _ _ _ _ => none
  | .uneq _ _ _ _ => none
  | .uneqi _ _ _ _ => none
  | .writedpc _ _ => none
  | .writepcsw _ _ _ => none
  | .writespc _ _ => none
  | .zex16 _ _ _ => none
  | .zex8 _ _ _ => none

/-- The five operations of an instruction, slots 1 to 5 (R180); `length` is the distance to the next instruction in
memory (R182, log 1). -/
structure Bundle where
  slot1 : Instr
  slot2 : Instr
  slot3 : Instr
  slot4 : Instr
  slot5 : Instr
  length : BitVec 16
deriving DecidableEq, Repr

/-- The operations of an instruction with their slot numbers. -/
def Bundle.ops (b : Bundle) : List (Nat × Instr) :=
  [(1, b.slot1), (2, b.slot2), (3, b.slot3), (4, b.slot4), (5, b.slot5)]

/-- An instruction of five nops (R530). -/
def Bundle.nops (length : BitVec 16) : Bundle := ⟨.nop, .nop, .nop, .nop, .nop, length⟩

/-- The instruction `b` with operation `i` in slot `k`; unchanged where there is no slot `k`. -/
def Bundle.put (b : Bundle) (k : Nat) (i : Instr) : Bundle :=
  match k with
  | 1 => { b with slot1 := i }
  | 2 => { b with slot2 := i }
  | 3 => { b with slot3 := i }
  | 4 => { b with slot4 := i }
  | 5 => { b with slot5 := i }
  | _ => b

end Sys2Proof
end

