-- ==== Sys2Proof/Machine/Params.lean ====
section
/-! DEFINITION. The parameters of the TM32 (spec/92_eei_decisions.md part 2) and of its units; each docstring says where
its value comes from. -/
namespace Sys2Proof.Config

/-! ### PCSW (R25) -/

/-- `PCSW_TRPWBE_BIT`. PRESUMED (log 6). -/
def trpWbeBit : Nat := 30
/-- `PCSW_TRPRSE_BIT`. PRESUMED (log 6). -/
def trpRseBit : Nat := 29
/-- `PCSW_WBE_BIT`. PRESUMED (log 6). -/
def wbeBit : Nat := 14
/-- `PCSW_RSE_BIT`. PRESUMED (log 6). -/
def rseBit : Nat := 13
/-- `PCSW_TFE_BIT`. PRESUMED (log 6). -/
def tfeBit : Nat := 12
/-- The reset value of PCSW (R26). -/
def pcswReset : Word := 0x800

/-! ### MMIO register layouts whose figures are lost -/

/-- `TCTL_RUN_BIT` (R66). PRESUMED (log 7). -/
def tctlRunBit : Nat := 0
/-- Lowest bit of the 4-bit `TCTL_SOURCE_FIELD` (R66). PRESUMED (log 7). -/
def tctlSourceLow : Nat := 12
/-- Lowest bit of the 4-bit `TCTL_PRESCALE_FIELD` (R66). PRESUMED (log 7). -/
def tctlPrescaleLow : Nat := 16
/-- The bits of TCTL that hold a field (R66). PRESUMED (log 7). -/
def tctlMask : Word := 0x000FF001
/-- `prescale_divisor` (R641): two to the power of the prescale value. PRESUMED (log 7). -/
def prescaleDivisor (p : BitVec 4) : Nat := 2 ^ p.toNat

/-- `BICTL_IC_BIT` (R67). DESIGN CHOICE (log 8). -/
def bictlIcBit : Nat := 0
/-- `BICTL_IAC_BIT` (R67). DESIGN CHOICE (log 8). -/
def bictlIacBit : Nat := 1
/-- The bits of BICTL that hold a field. DESIGN CHOICE (log 8). -/
def bictlMask : Word := 0x3
/-- Lowest bit of the 2-bit `BDCTL_DC_FIELD` (R69). DESIGN CHOICE (log 8). -/
def bdctlDcLow : Nat := 0
/-- `BDCTL_DAC_BIT` (R69). DESIGN CHOICE (log 8). -/
def bdctlDacBit : Nat := 2
/-- `BDCTL_DVC_BIT` (R69). DESIGN CHOICE (log 8). -/
def bdctlDvcBit : Nat := 3
/-- `BDCTL_BL_BIT` (R69). DESIGN CHOICE (log 8). -/
def bdctlBlBit : Nat := 4
/-- `BDCTL_BS_BIT` (R69). DESIGN CHOICE (log 8). -/
def bdctlBsBit : Nat := 5
/-- The bits of BDCTL that hold a field. DESIGN CHOICE (log 8). -/
def bdctlMask : Word := 0x3F
/-- Lowest bit of the 4-bit `MEM_EVENTS_EVENT1_FIELD` (R72). DESIGN CHOICE (log 8). -/
def event1Low : Nat := 0
/-- Lowest bit of the 4-bit `MEM_EVENTS_EVENT2_FIELD` (R72). DESIGN CHOICE (log 8). -/
def event2Low : Nat := 4
/-- The bits of MEM_EVENTS that hold a field. DESIGN CHOICE (log 8). -/
def memEventsMask : Word := 0xFF
/-- `DC_LOCK_ENABLE_BIT` and `IC_LOCK_ENABLE_BIT` (R73, R74). DESIGN CHOICE (log 8). -/
def lockEnableBit : Nat := 0
/-- The bits of the two lock control registers that hold a field. DESIGN CHOICE (log 8). -/
def lockCtlMask : Word := 0x1

/-- TM32_MODID (R77). -/
def modid : Word := 0x2B800001
/-- The wires tm32_mmio_base[31:21] before the system sets them: MMIO_BASE = 0xefe00000. DESIGN CHOICE (log 10). -/
def mmioBaseReset : BitVec 11 := 0x77F

/-! ### Parameters of the core -/

/-- `BRANCH_DELAY` (R510) and `EVENT_SAMPLE_DELAY` (R515, decision D20): instructions between a jump's issue and the
redirect. -/
def branchDelay : Nat := 3
/-- The recovery of the ftough unit (R190, R376). -/
def ftoughRecovery : Nat := 16
/-- The results written to the register file at one time (R34). -/
def writeBackLimit : Nat := 5
/-- The event decisions that may still see the PCSW bits as they were before a writepcsw: those of the writing
instruction, of the three instructions after it, and of an interruptible jump issued in one of those three
(R539, U16; log 20). -/
def oldPcswDecisions : Nat := 7
/-- `FTZ_ZERO_KEEPS_SIGN` = false (R362, decision D15): a flushed result is +0. -/
def ftzZeroKeepsSign : Bool := false
/-- `FNEQ_UNORDERED_RESULT` (R421, decision D18). -/
def fneqUnordered : Word := 0
/-- `sem_write(current, written)` (R670, decision D24). PRESUMED (log 21). -/
def semWrite (current written : BitVec 12) : BitVec 12 :=
  if current = 0 then written else if written = 0 then 0 else current

end Sys2Proof.Config

namespace Sys2Proof

/-- The latency of the unit's results in issued instructions (R190, R711); for the branch unit its delay slots. -/
def FuncUnit.latency : FuncUnit → Nat
  | .const | .alu | .shifter | .fcomp | .none => 1
  | .dspalu => 2
  | .dspmul | .ifmul | .falu | .dmem | .dmemspec | .branch => 3
  | .ftough => 17

end Sys2Proof
end

