-- ==== Sys2Proof/Machine/State.lean ====
section
/-! DEFINITION. The state of the machine: every piece of state the spec gives it (spec/10_state.md, spec/20_memory.md,
spec/60_exceptions.md, spec/70_reset_and_hazards.md), what the environment has in store for it, and its value after
reset. Plain data only. -/
namespace Sys2Proof.Machine

/-- Why the machine faults. The TM32 has no synchronous fault and never stops on an error (spec/60_exceptions.md R601;
spec/93_implementation_defined.md part 1: "fault and stuck are not used"). -/
inductive Fault
  /-- Raised by nobody: the spec gives the machine no fault. Safe. -/
  | none
deriving DecidableEq, Repr

/-- Why the model refuses to go on. All are safe: the model stops where the spec defines no effect. -/
inductive Refusal
  /-- Raised by an arm of `exec` whose instruction has no meaning yet. Safe. -/
  | notModelled (mnemonic : String)
  /-- Raised by the step: an operation of the instruction names r0 or r1 as destination, has an illegal modifier, or an
  h_ absolute value whose first source is not r0 (U1, U14, D12). Safe. -/
  | illFormedOperation
  /-- Raised by the step: an operation stands in a slot its unit does not have (U32). Safe. -/
  | illegalSlot
  /-- Raised by the step: a load or store in slot 4 beside a dmemspec operation in slot 5 (U25). Safe. -/
  | portConflict
  /-- Raised by the step: the bytes at PC are not an instruction (U12, D11). Safe. -/
  | noInstruction
  /-- Raised by the step: PC, or a byte of the instruction, is outside the DRAM aperture (U12). Safe. -/
  | pcOutsideDram
  /-- Raised by the step: the apertures overlap or wrap (U29), or CLIMIT is outside the DRAM aperture (log 46). Safe. -/
  | aperturesIllegal
  /-- Raised by a PI-bus write: an aperture register or the clock ratio is changed while the core runs (U33). Safe. -/
  | configurationWhileRunning
  /-- Raised at the end of an instruction: two results reach one register together (R35, D4). Safe. -/
  | writeCollision
  /-- Raised at the end of an instruction: two jumps of one instruction succeed (R512, U15). Safe. -/
  | twoJumps
  /-- Raised by an ftough operation issued before the unit has recovered (R376, U24). Safe. -/
  | ftoughBusy
  /-- Raised by an 8- or 16-bit store to the MMIO aperture (R125, U6). Safe. -/
  | narrowMmioStore
  /-- Raised by a writepcsw that sets RSE or TRPRSE (R43, U3). Safe. -/
  | reservedPcswBits
  /-- Raised by enabling cache locking over more than half the cache (R150, R164, U9). Safe. -/
  | lockRange
  /-- Raised by a load of instruction cache tags in the instruction of an iclr or the next (R163, U18). Safe. -/
  | tagReadAfterIclr
deriving DecidableEq, Repr

/-! ### Memory and caches -/

/-- The bytes of the SDRAM that differ from `Mem.unlisted`, addresses strictly rising. -/
abbrev Mem := List Host.Cell

/-- What an unlisted address of the SDRAM reads as. DESIGN CHOICE (log 5): SDRAM contents at power-on are not given. -/
def Mem.unlisted : Byte := 0

/-- The canonical form: addresses strictly rising and below 2^32, no entry equal to what an unlisted address reads as. -/
def Mem.wf : Mem → Bool
  | [] => true
  | [(a, b)] => decide (a < 2 ^ 32) && decide (b ≠ Mem.unlisted)
  | (a, b) :: (a', b') :: m =>
    decide (a < a') && decide (b ≠ Mem.unlisted) && Mem.wf ((a', b') :: m)

/-- The ten LRU bits of a cache set: the stored half of the matrix R and the bits 2_way (R146). -/
structure Lru where
  r10 : Bool
  r20 : Bool
  r21 : Bool
  r30 : Bool
  r31 : Bool
  r32 : Bool
  way : BitVec 4
deriving DecidableEq, Repr

/-- The initial value of the LRU bits (R147). -/
def Lru.initial : Lru := ⟨true, true, false, true, false, false, 0⟩

/-- The number of bytes of a cache block (R140, R159). -/
abbrev Block := Vector Byte 64

/-- One element of a cache set with a `t`-bit tag (R140, R159). The instruction cache has no dirty bits: there `dirty`
is never set. -/
structure Line (t : Nat) where
  valid : Bool
  dirty : Bool
  locked : Bool
  tag : BitVec t
  data : Block
deriving DecidableEq, Repr

/-- A set of eight elements with its LRU bits. -/
structure CacheSet (t : Nat) where
  lines : Vector (Line t) 8
  lru : Lru
deriving DecidableEq, Repr

/-- The data cache: 32 sets, 21-bit tags (R140). -/
abbrev DCache := Vector (CacheSet 21) 32

/-- The instruction cache: 64 sets, 20-bit tags (R159). -/
abbrev ICache := Vector (CacheSet 20) 64

/-- An element after reset: invalid, clean, unlocked; tag and data are not reset and named 0 (R158, log 3). -/
def Line.reset (t : Nat) : Line t := ⟨false, false, false, 0, Vector.replicate 64 0⟩

/-- A set after reset (R158, R702). -/
def CacheSet.reset (t : Nat) : CacheSet t := ⟨Vector.replicate 8 (Line.reset t), Lru.initial⟩

/-- An evicted dirty block on its way to SDRAM (R137): the block's number (address bits 31:6) and bytes. -/
structure CopyBack where
  block : BitVec 26
  data : Block
deriving DecidableEq, Repr

/-- An outstanding fetch of the data cache (R37, R157): the block's number, and whether a prefetch asked for it. -/
structure Fetch where
  block : BitVec 26
  prefetch : Bool
deriving DecidableEq, Repr

/-- The instruction cache as it was before an iclr, and the number of instructions still fetched from it (R552). -/
structure OldICache where
  cache : ICache
  left : Nat
deriving DecidableEq, Repr

/-! ### The pipeline (R32, R37) -/

/-- A register result not yet written; `left` instructions, this one included, until write-back (R32). -/
structure Result where
  dest : Reg
  value : Word
  left : Nat
deriving DecidableEq, Repr

/-- PCSW bits that the hardware will set at a write-back (R365, R42). -/
structure FlagUpdate where
  bits : Word
  left : Nat
deriving DecidableEq, Repr

/-- A successful jump whose delay is running (R510). -/
structure Redirect where
  target : Word
  left : Nat
  interruptible : Bool
deriving DecidableEq, Repr

/-- The width of a memory access (R106). -/
inductive Width
  | b1 | b2 | b4
deriving DecidableEq, Repr

/-- The number of bytes. -/
def Width.bytes : Width → Nat
  | .b1 => 1
  | .b2 => 2
  | .b4 => 4

/-- A load or store that an operation of the current instruction has made (R134). -/
structure Access where
  /-- the address after the low bits were forced -/
  addr : Word
  width : Width
  store : Bool
  /-- it lies in an aperture -/
  mapped : Bool
  /-- it is a special memory operation (R136) -/
  special : Bool
  /-- of a load: its destination -/
  dest : Reg
  /-- of a load: it extends with the sign -/
  signed : Bool
  /-- of a load: the value before the extension -/
  raw : Word
  /-- the address that a data breakpoint compares: before the low bits were forced (R651, D22) -/
  daddr : Word
  /-- the value that a data breakpoint compares: what a load writes to its destination, the low bytes of a store -/
  data : Word
deriving DecidableEq, Repr

/-- What the operations of the current instruction have done so far; cleared at its end. The model's own. -/
structure IssueLog where
  /-- loads and stores, latest first -/
  accesses : List Access
  /-- an iclr was issued -/
  iclr : Bool
  /-- data breakpoint events (R651) -/
  dataBreaks : Nat
deriving DecidableEq, Repr

/-- Nothing issued yet. -/
def IssueLog.empty : IssueLog := ⟨[], false, 0⟩

/-! ### Timers, run state, environment -/

/-- A timer (R64 to R66), its prescale counter (R641) and the clock cycles its request pulse still lasts (R643). -/
structure Timer where
  modulus : Word
  value : Word
  ctl : Word
  prescale : Nat
  pulse : Nat
deriving DecidableEq, Repr

/-- A timer after reset (R645, log 3). -/
def Timer.reset : Timer := ⟨0, 0, 0, 0, 0⟩

/-- The run state of the core (R703); its state 'off' is any of these under `State.pwrdwn`. -/
inductive RunState
  | stopped | running | sleeping
deriving DecidableEq, Repr

/-- The PI-bus transactions the core makes (R130). -/
inductive PiOp
  | readWdu | writeWdu | writeHw0 | writeHw1 | writeBy0 | writeBy1 | writeBy2 | writeBy3
deriving DecidableEq, Repr

/-- A PI-bus transaction: its word address and, for a write, the value on the wires (R130), those above a narrow value
recorded as zeros (log 28). -/
structure PiTransaction where
  op : PiOp
  addr : Word
  data : Word
deriving DecidableEq, Repr

/-- What the pins do in one clock cycle (log 17): the levels of the request lines (bits 8:5 are ignored: the timers are
inside, R628), bit k a positive edge on the input of timer source k (R640), and bit k a cache event k that the model
does not compute (R652, log 34). -/
structure CycleInputs where
  irq : BitVec 32
  pins : BitVec 16
  cacheEvents : BitVec 16
deriving DecidableEq, Repr

/-- What the environment does (log 17). Each event acts between two clock cycles; `cycle` and `stall` are a clock
cycle each. -/
inductive EnvEvent
  /-- A clock cycle in which a running core issues one instruction (R30). -/
  | cycle (inputs : CycleInputs)
  /-- A clock cycle in which the core is stalled and issues nothing (R30, R165; log 18). -/
  | stall (inputs : CycleInputs)
  /-- A PI master writes the core's MMIO register at this offset (R131). -/
  | piWrite (offset : BitVec 21) (value : Word)
  /-- A PI master reads the core's MMIO register at this offset (R131). -/
  | piRead (offset : BitVec 21)
  /-- Another master writes a byte of SDRAM (R139). -/
  | dramWrite (addr : Word) (value : Byte)
  /-- The oldest copyback buffer reaches SDRAM (R137). -/
  | drain
  /-- The oldest outstanding fetch of the data cache is done (R137, R156). -/
  | fetchDone
  /-- The reset pin is asserted and negated (R700). -/
  | reset
  /-- The level of tm32_pwrdwn_req (R663). -/
  | pwrdwnReq (level : Bool)
deriving DecidableEq, Repr

/-- The state of the machine. -/
structure State where
  /-- the general registers (R20) -/
  regs : Vector Word 128
  /-- program counter (R23) -/
  pc : Word
  /-- program control and status word (R25) -/
  pcsw : Word
  /-- destination program counter (R46) -/
  dpc : Word
  /-- source program counter (R47) -/
  spc : Word
  /-- CCCOUNT master counter (R49) -/
  ccMaster : Word64
  /-- CCCOUNT slave register (R50) -/
  ccSlave : Word64
  /-- results waiting for write-back (R32) -/
  results : List Result
  /-- PCSW bits waiting to be set (R365) -/
  flagUpdates : List FlagUpdate
  /-- the writepcsw of this instruction: value and mask (R539) -/
  pcswWrite : Option (Word × Word)
  /-- the writedpc of this instruction (R537) -/
  dpcWrite : Option Word
  /-- the writespc of this instruction (R538) -/
  spcWrite : Option Word
  /-- older PCSW words the event logic may still see, with the decisions left (R539) -/
  oldPcsw : List (Word × Nat)
  /-- successful jumps whose delay is running (R510) -/
  redirects : List Redirect
  /-- instructions until the ftough unit has recovered (R376) -/
  ftoughBusy : Nat
  /-- scratch of the current instruction -/
  issue : IssueLog
  /-- the previous instruction issued an iclr (R163) -/
  iclrPrev : Bool
  /-- SDRAM (R120) -/
  mem : Mem
  /-- data cache (R140) -/
  dcache : DCache
  /-- copyback buffers, newest first (R137) -/
  copyback : List CopyBack
  /-- outstanding misses and prefetches of the data cache, newest first (R37, R156) -/
  fetches : List Fetch
  /-- cache events of each kind of Table 3-11 that no clock cycle has counted yet (R640, R652; log 34) -/
  cacheEvents : Vector Nat 16
  /-- instruction cache (R159) -/
  icache : ICache
  /-- the instruction caches before recent iclr operations, oldest first (R552) -/
  icacheOld : List OldICache
  /-- TM32_CTL.PLL_EN (R53) -/
  ctlPllEn : BitVec 1
  /-- TM32_CTL.RATIO (R53) -/
  ctlRatio : BitVec 6
  /-- TM32_DRAM_LO (R54) -/
  dramLo : Word
  /-- TM32_DRAM_HI (R54) -/
  dramHi : Word
  /-- TM32_DRAM_CLIMIT (R54) -/
  dramClimit : Word
  /-- TM32_APERT1_LO (R55) -/
  apert1Lo : Word
  /-- TM32_APERT1_HI (R55) -/
  apert1Hi : Word
  /-- TM32_START_ADDR (R56) -/
  startAddr : Word
  /-- MEM_EVENTS (R72) -/
  memEvents : Word
  /-- DC_LOCK_CTL (R73) -/
  dcLockCtl : Word
  /-- DC_LOCK_ADDR (R73) -/
  dcLockAddr : Word
  /-- DC_LOCK_SIZE (R73) -/
  dcLockSize : Word
  /-- IC_LOCK_CTL (R74) -/
  icLockCtl : Word
  /-- IC_LOCK_ADDR (R74) -/
  icLockAddr : Word
  /-- IC_LOCK_SIZE (R74) -/
  icLockSize : Word
  /-- SEM (R78) -/
  sem : BitVec 12
  /-- EXCVEC (R58) -/
  excvec : Word
  /-- INTVEC0..INTVEC31 (R59) -/
  intvec : Vector Word 32
  /-- ISETTING0..ISETTING3 (R60) -/
  isetting : Vector Word 4
  /-- the pending flags of edge-triggered sources (R620) -/
  pend : Word
  /-- the previous level of the request lines (R37, R621) -/
  irqLines : Word
  /-- IMASK (R63) -/
  imask : Word
  /-- TIMER1, TIMER2, TIMER3, SYSTIMER (R640) -/
  timers : Vector Timer 4
  /-- BICTL (R67) -/
  bictl : Word
  /-- BINSTLOW (R68) -/
  binstLow : Word
  /-- BINSTHIGH (R68) -/
  binstHigh : Word
  /-- BDCTL (R69) -/
  bdctl : Word
  /-- BDATAALOW (R70) -/
  bdataALow : Word
  /-- BDATAAHIGH (R70) -/
  bdataAHigh : Word
  /-- BDATAVAL (R71) -/
  bdataVal : Word
  /-- BDATAMASK (R71) -/
  bdataMask : Word
  /-- the wires tm32_mmio_base[31:21] (R112, R124) -/
  mmioBase : BitVec 11
  /-- run state (R703) -/
  run : RunState
  /-- full powerdown (R663) -/
  pwrdwn : Bool
  /-- the level of tm32_pwrdwn_ack (R663) -/
  pwrdwnAck : Bool
  /-- instructions still issued after a POWER_DOWN store (R661) -/
  sleepIn : Option Nat
  /-- the PI-bus transactions made, newest first: the model's own record (R130) -/
  piLog : List PiTransaction
  /-- what the last PI-master read returned: the model's own (R131) -/
  piReply : Option Word
  /-- the index of the next free value: the model's own (log 11) -/
  freeCount : Nat
  /-- the environment's events not yet consumed: the model's own (log 17) -/
  inbox : List EnvEvent
deriving DecidableEq, Repr

/-- The machine right after reset (R80, R701 to R705); the values the spec does not give are those of log 3, 4, 5, 10. -/
def State.reset : State where
  regs := (Vector.replicate 128 0).set 1 1
  pc := 0
  pcsw := Config.pcswReset
  dpc := 0
  spc := 0
  ccMaster := 0
  ccSlave := 0
  results := []
  flagUpdates := []
  pcswWrite := none
  dpcWrite := none
  spcWrite := none
  oldPcsw := []
  redirects := []
  ftoughBusy := 0
  issue := IssueLog.empty
  iclrPrev := false
  mem := []
  dcache := Vector.replicate 32 (CacheSet.reset 21)
  copyback := []
  fetches := []
  cacheEvents := Vector.replicate 16 0
  icache := Vector.replicate 64 (CacheSet.reset 20)
  icacheOld := []
  ctlPllEn := 0
  ctlRatio := 0x09
  dramLo := 0x00000000
  dramHi := 0x01000000
  dramClimit := 0x00FF0000
  apert1Lo := 0x1C000000
  apert1Hi := 0x20000000
  startAddr := 0
  memEvents := 0
  dcLockCtl := 0
  dcLockAddr := 0
  dcLockSize := 0
  icLockCtl := 0
  icLockAddr := 0
  icLockSize := 0
  sem := 0
  excvec := 0
  intvec := Vector.replicate 32 0
  isetting := Vector.replicate 4 0
  pend := 0
  irqLines := 0
  imask := 0
  timers := Vector.replicate 4 Timer.reset
  bictl := 0
  binstLow := 0
  binstHigh := 0
  bdctl := 0
  bdataALow := 0
  bdataAHigh := 0
  bdataVal := 0
  bdataMask := 0
  mmioBase := Config.mmioBaseReset
  run := .stopped
  pwrdwn := false
  pwrdwnAck := false
  sleepIn := none
  piLog := []
  piReply := none
  freeCount := 0
  inbox := []

end Sys2Proof.Machine
end

