-- ==== Sys2Proof/Machine/Flags.lean ====
section
/-! DEFINITION. The fields of PCSW and every flag computation of the machine (spec/10_state.md R25 to R45;
spec/43_float_arith.md R360; spec/60_exceptions.md R610). -/
namespace Sys2Proof.Machine

/-- The word of `n` bits whose bit `k` is `p k`. -/
def bitsOf : (n : Nat) → (Nat → Bool) → BitVec n
  | 0, _ => 0
  | n + 1, p => BitVec.cons (p n) (bitsOf n p)

/-- The word with the one bit `k`. -/
def bit (k : Nat) : Word := 1 <<< k

/-! ### Floating-point flags (R28, R360) -/

/-- DBZ, bit 0. -/
def flagDBZ : Word := 0x01
/-- INX, bit 1. -/
def flagINX : Word := 0x02
/-- UNF, bit 2. -/
def flagUNF : Word := 0x04
/-- OVF, bit 3. -/
def flagOVF : Word := 0x08
/-- INV, bit 4. -/
def flagINV : Word := 0x10
/-- IFZ, bit 5. -/
def flagIFZ : Word := 0x20
/-- OFZ, bit 6. -/
def flagOFZ : Word := 0x40
/-- MSE, bit 15 (R42). -/
def flagMSE : Word := 0x8000
/-- WBE (R42, log 6). -/
def flagWBE : Word := bit Config.wbeBit

/-! ### Fields of PCSW -/

/-- IEEE MODE, bits 8:7 (R38): 0 to nearest even, 1 to zero, 2 to positive infinity, 3 to negative infinity. -/
def ieeeMode (p : Word) : BitVec 2 := p.extractLsb' 7 2
/-- BSX, bit 9 (R39): true for little endian. -/
def bsx (p : Word) : Bool := p.getLsbD 9
/-- IEN, bit 10 (R40). -/
def ien (p : Word) : Bool := p.getLsbD 10
/-- CS, bit 11 (R41). -/
def countStalls (p : Word) : Bool := p.getLsbD 11
/-- TFE (R44, log 6). -/
def tfe (p : Word) : Bool := p.getLsbD Config.tfeBit

/-- The exception request (R610): an enabled flag of MSE, the floating-point flags or WBE, or TFE. -/
def exceptionPending (p : Word) : Bool :=
  (p.getLsbD 15 && p.getLsbD 31)
    || decide (p.extractLsb' 0 7 &&& p.extractLsb' 16 7 ≠ 0)
    || (p.getLsbD Config.wbeBit && p.getLsbD Config.trpWbeBit)
    || tfe p

/-- The bits of PCSW the event logic reads: flags, trap enables, TFE and IEN (R539). -/
def eventMask : Word :=
  0xFFFF0000 ||| 0x807F ||| flagWBE ||| bit Config.tfeBit ||| bit 10

/-- writepcsw's function (R539): the bits of `value` where `mask` is 1. -/
def maskedWrite (p value mask : Word) : Word := (p &&& ~~~mask) ||| (value &&& mask)

/-- The bits RSE and TRPRSE, which software may not set (R43, U3). -/
def reservedBits : Word := bit Config.rseBit ||| bit Config.trpRseBit

end Sys2Proof.Machine
end

