-- ==== Sys2Proof/Machine/Ops.lean ====
section
/-! DEFINITION. The shared operations over registers, memory, the pipeline and the event logic. -/
namespace Sys2Proof.Machine

/-- What an operation or the step answers. -/
abbrev Out := Host.Outcome State Fault Refusal

/-- A computation that may be refused. -/
abbrev Res (α : Type) := Except Refusal α

/-- Go on with `f` unless refused. -/
def Res.run (r : Res State) (f : State → Out) : Out :=
  match r with
  | .ok s => f s
  | .error e => .refused e

/-! ### Free values (log 11) -/

/-- One free value has been used. -/
def State.drawn (s : State) : State := { s with freeCount := s.freeCount + 1 }

/-- A free word and the state after drawing it. -/
def State.drawWord (s : State) : Word × State := (Config.freeWord s.freeCount, s.drawn)
/-- A free choice of two and the state after drawing it. -/
def State.drawBool (s : State) : Bool × State := (Config.freeBool s.freeCount, s.drawn)
/-- A free count and the state after drawing it. -/
def State.drawNat (s : State) : Nat × State := (Config.freeNat s.freeCount, s.drawn)

/-- 64 bytes of a free block: bytes `64 n` to `64 n + 63` of the free bytes. -/
def freeBlock (n : Nat) : Block := Vector.ofFn fun i : Fin 64 => Config.freeByte (64 * n + i.val)

/-! ### General registers (R20, R21) -/

/-- Read a general register: r0 is 0, r1 is 1 (R21). -/
def State.reg (s : State) (r : Reg) : Word :=
  if r = 0 then 0 else if r = 1 then 1 else s.regs[r.toNat]

/-- Write a general register; r0 and r1 keep their values (R21). -/
def State.setReg (s : State) (r : Reg) (v : Word) : State :=
  if r = 0 then s else if r = 1 then s else { s with regs := s.regs.set r.toNat v }

/-- Bit 0 of the guard register (R36). -/
def State.guard (s : State) (g : Reg) : Bool := (s.reg g).getLsbD 0

/-- Perform `f` where the guard is true; else nothing at all (R36). -/
def guarded (g : Reg) (s : State) (f : State → Out) : Out := if s.guard g then f s else .next s

/-! ### Results and flags on their way (R32, R365) -/

/-- The result `v` for register `d`, to be written `lat` instructions later (R32). -/
def State.issueResult (s : State) (d : Reg) (v : Word) (lat : Nat) : State :=
  { s with results := ⟨d, v, lat⟩ :: s.results }

/-- PCSW bits to be set `lat` instructions later (R365). No bits: no update. -/
def State.issueFlags (s : State) (bits : Word) (lat : Nat) : State :=
  if bits = 0 then s else { s with flagUpdates := ⟨bits, lat⟩ :: s.flagUpdates }

/-- A guarded operation of unit `u` that writes the value `v` of its operands to `d` and does nothing else. -/
def issueValue (u : FuncUnit) (g d : Reg) (v : Word) (s : State) : Out :=
  guarded g s fun s => .next (s.issueResult d v u.latency)

/-! ### SDRAM: a canonical list of bytes -/

/-- The byte at address `a`. -/
def Mem.read : Mem → Nat → Byte
  | [], _ => Mem.unlisted
  | (a', b) :: m, a => if a = a' then b else Mem.read m a

/-- Put the byte `b` at address `a`, keeping the canonical form. -/
def Mem.write : Mem → Nat → Byte → Mem
  | [], a, b => if b = Mem.unlisted then [] else [(a, b)]
  | (a', b') :: m, a, b =>
    if a < a' then (if b = Mem.unlisted then (a', b') :: m else (a, b) :: (a', b') :: m)
    else if a = a' then (if b = Mem.unlisted then m else (a, b) :: m)
    else (a', b') :: Mem.write m a b

/-- Put the bytes `bs` at the addresses from `a` on, modulo 2^32 (R100). -/
def Mem.writeList (m : Mem) (a : Word) : List Byte → Mem
  | [] => m
  | b :: bs => Mem.writeList (m.write a.toNat b) (a + 1) bs

/-- The first address of block number `k`. -/
def blockBase (k : BitVec 26) : Word := k ++ (0 : BitVec 6)

/-- The block number of an address: bits 31:6. -/
def blockOf (a : Word) : BitVec 26 := a.extractLsb' 6 26

/-- The offset of an address in its block: bits 5:0. -/
def blockOffset (a : Word) : Fin 64 := (a.extractLsb' 0 6).toFin

/-- Write a block to SDRAM. -/
def Mem.writeBlock (m : Mem) (k : BitVec 26) (d : Block) : Mem := m.writeList (blockBase k) d.toList

/-- Read a block from SDRAM. -/
def Mem.readBlock (m : Mem) (k : BitVec 26) : Block :=
  Vector.ofFn fun i : Fin 64 => m.read (blockBase k + BitVec.ofNat 32 i.val).toNat

/-! ### The address map (R112, R122) -/

/-- The apertures (R112). -/
inductive Region
  | mmio | dramCached | dramUncached | apert1 | none
deriving DecidableEq, Repr

/-- MMIO_BASE (R112). -/
def State.mmioBaseAddr (s : State) : Word := s.mmioBase ++ (0 : BitVec 21)

/-- The aperture an address lies in (R112). -/
def State.region (s : State) (a : Word) : Region :=
  if a.extractLsb' 21 11 = s.mmioBase then .mmio
  else if s.dramLo ≤ a ∧ a < s.dramClimit then .dramCached
  else if s.dramClimit ≤ a ∧ a < s.dramHi then .dramUncached
  else if s.apert1Lo ≤ a ∧ a < s.apert1Hi then .apert1
  else .none

/-- The address lies in the DRAM aperture (R120). -/
def State.inDram (s : State) (a : Word) : Bool := decide (s.dramLo ≤ a) && decide (a < s.dramHi)

/-- Two ranges `[lo, hi)` share no address. -/
def rangesApart (lo hi lo' hi' : Nat) : Bool :=
  decide (hi ≤ lo) || decide (hi' ≤ lo') || decide (hi ≤ lo') || decide (hi' ≤ lo)

/-- The apertures are legal (R120, R122, U29): DRAM does not wrap and no two apertures overlap. That CLIMIT must lie in
the DRAM aperture or at its end is the model's choice (log 46). -/
def State.aperturesLegal (s : State) : Bool :=
  let mlo := s.mmioBaseAddr.toNat
  let mhi := mlo + 0x200000
  decide (s.dramLo ≤ s.dramClimit) && decide (s.dramClimit ≤ s.dramHi)
    && rangesApart s.dramLo.toNat s.dramHi.toNat mlo mhi
    && rangesApart s.dramLo.toNat s.dramHi.toNat s.apert1Lo.toNat s.apert1Hi.toNat
    && rangesApart mlo mhi s.apert1Lo.toNat s.apert1Hi.toNat

/-! ### The interrupt controller (R612, R620 to R625) -/

/-- The 4-bit field MPn of ISETTING (R60). -/
def State.mp (s : State) (n : Fin 32) : BitVec 4 := (s.isetting[n.val / 8]).extractLsb' (4 * (n.val % 8)) 4

/-- Source `n` is level-sensitive (R60). -/
def State.levelSensitive (s : State) (n : Fin 32) : Bool := (s.mp n).getLsbD 3

/-- The priority level of source `n`, 7 for NMI (R60). -/
def State.priority (s : State) (n : Fin 32) : Nat := ((s.mp n).extractLsb' 0 3).toNat

/-- The level of request line `n`: the timers' pulses for sources 5 to 8, else the pin (R628, R643). -/
def State.reqLine (s : State) (n : Fin 32) : Bool :=
  if n.val = 5 then decide (0 < s.timers[0].pulse)
  else if n.val = 6 then decide (0 < s.timers[1].pulse)
  else if n.val = 7 then decide (0 < s.timers[2].pulse)
  else if n.val = 8 then decide (0 < s.timers[3].pulse)
  else s.irqLines.getLsbD n.val

/-- Bit `n` of IPENDING (R620). -/
def State.pendingBit (s : State) (n : Fin 32) : Bool :=
  if s.levelSensitive n then s.reqLine n else s.pend.getLsbD n.val

/-- The value a load of IPENDING or ICLEAR returns (R61, R62). -/
def State.ipending (s : State) : Word := bitsOf 32 fun k => s.pendingBit (Fin.ofNat 32 k)

/-- Source `n` is pending and not masked (R612). -/
def State.candidate (s : State) (n : Fin 32) : Bool := s.pendingBit n && s.imask.getLsbD n.val

/-- The lowest-numbered candidate at level `l` (R625). -/
def State.candidateAt (s : State) (l : Nat) : Option (Fin 32) :=
  (List.finRange 32).find? fun n => s.candidate n && decide (s.priority n = l)

/-- The winning interrupt source under PCSW `p` (R612, R614, R625): the NMI of the lowest number; else, with IEN, the
lowest number at the highest level. -/
def State.interruptWinner (s : State) (p : Word) : Option (Fin 32) :=
  match s.candidateAt 7 with
  | some n => some n
  | none => if ien p then [6, 5, 4, 3, 2, 1, 0].findSome? s.candidateAt else none

/-- The dispatch of source `n`'s vector clears its pending flag in edge-triggered mode (R613, R621). -/
def State.dispatched (s : State) (n : Fin 32) : State :=
  if s.levelSensitive n then s else { s with pend := s.pend &&& ~~~(bit n.val) }

/-! ### Exceptions and interrupts (R514, R515, R600 to R615)

An event is taken only where a successful interruptible jump completes its delay. There is no return operation: a
handler returns by an ordinary jump to the address it read from DPC (R615). -/

/-- The PCSW word the event decision reads, and the state after the draw: the current one, or, within the three
instructions after a writepcsw (and at the jumps issued in them), any of the older ones (R539, U16; log 20). -/
def State.decisionPcsw (s : State) : Word × State :=
  match s.oldPcsw with
  | [] => (s.pcsw, s)
  | old => ((s.pcsw :: old.map Prod.fst).getD (Config.freeNat s.freeCount % (old.length + 1)) s.pcsw, s.drawn)

/-- Exception entry (R611): DPC holds the jump's target, the machine goes on at EXCVEC; nothing else changes. -/
def State.enterException (s : State) (target : Word) : State := { s with dpc := target, pc := s.excvec }

/-- Interrupt entry for source `n` (R613): DPC holds the jump's target, the machine goes on at INTVECn, and an
edge-triggered source's pending flag is cleared. -/
def State.enterInterrupt (s : State) (n : Fin 32) (target : Word) : State :=
  { s.dispatched n with dpc := target, pc := s.intvec[n.val] }

/-- An interruptible jump that is not interrupted (R514): PC, DPC and SPC take the target. -/
def State.jumpPlain (s : State) (target : Word) : State := { s with dpc := target, spc := target, pc := target }

/-- The event decision at the end of the delay of a successful interruptible jump (R514): exceptions first, then
interrupts, else the jump itself; the CCCOUNT slave takes the master's value in all three cases (R50). -/
def State.completeInterruptible (s : State) (target : Word) : State :=
  let d := s.decisionPcsw
  let s' :=
    if exceptionPending d.1 then d.2.enterException target
    else
      match d.2.interruptWinner d.1 with
      | some n => d.2.enterInterrupt n target
      | none => d.2.jumpPlain target
  { s' with ccSlave := s'.ccMaster }

/-- The end of a jump's delay (R510, R514). -/
def State.completeJump (s : State) (r : Redirect) : State :=
  if r.interruptible then s.completeInterruptible r.target else { s with pc := r.target }

end Sys2Proof.Machine
end

