-- ==== Sys2Proof/Machine/Operands.lean ====
section
/-! DEFINITION. Operand forms: bit fields, extensions, clipping, addressing forms, alignment and byte order
(spec/00_scope.md R7; spec/20_memory.md R101, R103; spec/40_load_store.md R261). -/
namespace Sys2Proof.Machine

/-! ### Bit fields and extensions -/

/-- Byte `k` of a word, byte 0 least significant. -/
def byteAt (w : Word) (k : Nat) : Byte := w.extractLsb' (8 * k) 8
/-- Halfword `k` of a word, halfword 0 least significant. -/
def halfAt (w : Word) (k : Nat) : BitVec 16 := w.extractLsb' (16 * k) 16
/-- Sign-extend a byte. -/
def sext8 (b : Byte) : Word := b.signExtend 32
/-- Zero-extend a byte. -/
def zext8 (b : Byte) : Word := b.setWidth 32
/-- Sign-extend a halfword. -/
def sext16 (h : BitVec 16) : Word := h.signExtend 32
/-- Zero-extend a halfword. -/
def zext16 (h : BitVec 16) : Word := h.setWidth 32
/-- The word of two halfwords, the first one most significant. -/
def ofHalves (hi lo : BitVec 16) : Word := hi ++ lo
/-- The word of four bytes, the first one most significant. -/
def ofBytes (b3 b2 b1 b0 : Byte) : Word := b3 ++ b2 ++ b1 ++ b0
/-- The truth value of a comparison as an integer (R480). -/
def ofBool (b : Bool) : Word := if b then 1 else 0
/-- `x` limited to the range from `lo` to `hi`. -/
def clip (lo hi x : Int) : Int := if x < lo then lo else if hi < x then hi else x
/-- An exact integer as a 32-bit word, modulo 2^32. -/
def wrap32 (x : Int) : Word := BitVec.ofInt 32 x
/-- An exact integer as a halfword, modulo 2^16. -/
def wrap16 (x : Int) : BitVec 16 := BitVec.ofInt 16 x
/-- An exact integer as a byte, modulo 2^8. -/
def wrap8 (x : Int) : Byte := BitVec.ofInt 8 x
/-- The unsigned value of a bit vector. -/
def uval {n : Nat} (w : BitVec n) : Int := (w.toNat : Int)

/-! ### Addressing forms (R261) -/

/-- `r[base] + d`. -/
def State.addrDisp (s : State) (base : Reg) (d : Int) : Word := s.reg base + BitVec.ofInt 32 d
/-- `r[base] + scale * r[index]`. -/
def State.addrIndex (s : State) (base index : Reg) (scale : Word) : Word := s.reg base + scale * s.reg index

/-- Force the low address bits to zero (R103). -/
def align (n : Width) (a : Word) : Word :=
  match n with
  | .b1 => a
  | .b2 => a &&& ~~~1
  | .b4 => a &&& ~~~3

/-- The address is a multiple of the width (R103). -/
def aligned (n : Width) (a : Word) : Bool := decide (align n a = a)

/-! ### Byte order (R101) -/

/-- The byte of the register value that lies at offset `i` of an access: the significance of memory byte `i`. -/
def bytePos (little : Bool) (n : Width) (i : Nat) : Nat := if little then i else n.bytes - 1 - i

/-- The value, zero-extended, of the bytes `f 0`, `f 1`, ... of an access (R101). -/
def compose (little : Bool) (n : Width) (f : Nat → Byte) : Word :=
  match n, little with
  | .b1, _ => zext8 (f 0)
  | .b2, true => zext16 (f 1 ++ f 0)
  | .b2, false => zext16 (f 0 ++ f 1)
  | .b4, true => ofBytes (f 3) (f 2) (f 1) (f 0)
  | .b4, false => ofBytes (f 0) (f 1) (f 2) (f 3)

/-- The bytes of an access, in rising address order, that hold the low bytes of `v` (R101). -/
def splitBytes (little : Bool) (n : Width) (v : Word) : List Byte :=
  match n, little with
  | .b1, _ => [byteAt v 0]
  | .b2, true => [byteAt v 0, byteAt v 1]
  | .b2, false => [byteAt v 1, byteAt v 0]
  | .b4, true => [byteAt v 0, byteAt v 1, byteAt v 2, byteAt v 3]
  | .b4, false => [byteAt v 3, byteAt v 2, byteAt v 1, byteAt v 0]

/-- The low `8 N` bits of a word, zero-extended. -/
def lowBytes (n : Width) (v : Word) : Word :=
  match n with
  | .b1 => zext8 (byteAt v 0)
  | .b2 => zext16 (halfAt v 0)
  | .b4 => v

/-- The extension of a loaded value of `n` bytes (R262). -/
def extend (n : Width) (signed : Bool) (v : Word) : Word :=
  match n, signed with
  | .b1, true => sext8 (byteAt v 0)
  | .b1, false => zext8 (byteAt v 0)
  | .b2, true => sext16 (halfAt v 0)
  | .b2, false => zext16 (halfAt v 0)
  | .b4, _ => v

/-- Replace byte `k` of a word. -/
def setByte (w : Word) (k : Nat) (b : Byte) : Word :=
  (w &&& ~~~((0xFF : Word) <<< (8 * k))) ||| ((b.setWidth 32) <<< (8 * k))

/-! ### Clipping and packed fields (spec/42_dsp.md R311, R312) -/

/-- Clip to the signed 32-bit range. -/
def clip32 (x : Int) : Word := wrap32 (clip (-2147483648) 2147483647 x)
/-- Clip to the unsigned 32-bit range. -/
def clipU32 (x : Int) : Word := wrap32 (clip 0 4294967295 x)
/-- Clip to the signed 16-bit range. -/
def clip16 (x : Int) : BitVec 16 := wrap16 (clip (-32768) 32767 x)
/-- Clip to the unsigned 8-bit range. -/
def clipU8 (x : Int) : Byte := wrap8 (clip 0 255 x)
/-- Combine the two pairs of halfwords. -/
def mapHalves (f : BitVec 16 → BitVec 16 → BitVec 16) (a b : Word) : Word :=
  ofHalves (f (halfAt a 1) (halfAt b 1)) (f (halfAt a 0) (halfAt b 0))
/-- Combine the four pairs of bytes. -/
def mapBytes (f : Byte → Byte → Byte) (a b : Word) : Word :=
  ofBytes (f (byteAt a 3) (byteAt b 3)) (f (byteAt a 2) (byteAt b 2)) (f (byteAt a 1) (byteAt b 1))
    (f (byteAt a 0) (byteAt b 0))
/-- Add up `f` over the two pairs of halfwords. -/
def sumHalves (f : BitVec 16 → BitVec 16 → Int) (a b : Word) : Int :=
  f (halfAt a 1) (halfAt b 1) + f (halfAt a 0) (halfAt b 0)
/-- Add up `f` over the four pairs of bytes. -/
def sumBytes (f : Byte → Byte → Int) (a b : Word) : Int :=
  f (byteAt a 3) (byteAt b 3) + f (byteAt a 2) (byteAt b 2) + f (byteAt a 1) (byteAt b 1) + f (byteAt a 0) (byteAt b 0)

/-! ### Shift amounts (spec/41_shift_logical.md R281) -/

/-- The amount of a shift by a register, all amounts of 32 and more as 32. -/
def shiftAmount (w : Word) : Nat := if w.extractLsb' 5 27 = 0 then (w.extractLsb' 0 5).toNat else 32
/-- The amount of a halfword shift by a register, all amounts of 16 and more as 16 (spec/42_dsp.md R325). -/
def halfShiftAmount (w : Word) : Nat := if w.extractLsb' 4 28 = 0 then (w.extractLsb' 0 4).toNat else 16
/-- The amount of a rotation by a register: its low five bits. -/
def rotateAmount (w : Word) : Nat := (w.extractLsb' 0 5).toNat

end Sys2Proof.Machine
end

