-- ==== Sys2Proof/Machine/Cache.lean ====
section
/-! DEFINITION. The data cache with its copyback buffers, and the instruction cache (spec/20_memory.md R140 to R164;
spec/49_cache_pack.md R550 to R554). -/
namespace Sys2Proof.Machine

/-! ### LRU (R146, R147, R152) -/

/-- The LRU bits after a reference to element `e` (R146): row `e / 2` to 1, column to 0, and the two-way bit. -/
def Lru.reference (l : Lru) (e : Fin 8) : Lru :=
  let way := if e.val % 2 = 0 then l.way ||| ((1 : BitVec 4) <<< (e.val / 2)) else l.way &&& ~~~((1 : BitVec 4) <<< (e.val / 2))
  match e.val / 2 with
  | 0 => { l with r10 := false, r20 := false, r30 := false, way := way }
  | 1 => { l with r10 := true, r21 := false, r31 := false, way := way }
  | 2 => { l with r20 := true, r21 := true, r32 := false, way := way }
  | _ => { l with r30 := true, r31 := true, r32 := true, way := way }

/-- `LRU_DEMOTE` (R152, log 23): element `e` becomes the victim: row `e / 2` to 0, column to 1, and the two-way bit. -/
def Lru.demote (l : Lru) (e : Fin 8) : Lru :=
  let way := if e.val % 2 = 0 then l.way &&& ~~~((1 : BitVec 4) <<< (e.val / 2)) else l.way ||| ((1 : BitVec 4) <<< (e.val / 2))
  match e.val / 2 with
  | 0 => { l with r10 := true, r20 := true, r30 := true, way := way }
  | 1 => { l with r10 := false, r21 := true, r31 := true, way := way }
  | 2 => { l with r20 := false, r21 := false, r32 := true, way := way }
  | _ => { l with r30 := false, r31 := false, r32 := false, way := way }

/-- The pair whose row is all 0 and whose column is all 1 (R146); pair 0 for a matrix no sequence of references gives. -/
def Lru.pair (l : Lru) : Nat :=
  if l.r10 && l.r20 && l.r30 then 0
  else if !l.r10 && l.r21 && l.r31 then 1
  else if !l.r20 && !l.r21 && l.r32 then 2
  else if !l.r30 && !l.r31 && !l.r32 then 3
  else 0

/-- The least recently used element `p * 2 + q` (R146). -/
def Lru.victim (l : Lru) : Fin 8 := Fin.ofNat 8 (l.pair * 2 + if l.way.getLsbD l.pair then 1 else 0)

/-- The ten-bit image of the LRU bits (R147, log 9). -/
def Lru.image (l : Lru) : BitVec 10 :=
  Config.lruImage (bitsOf 6 fun k => [l.r10, l.r20, l.r21, l.r30, l.r31, l.r32].getD k false) l.way

/-! ### Sets -/

/-- The vector of the `f` of each entry of `v`. -/
def mapEach {α β : Type} {n : Nat} (f : α → β) (v : Vector α n) : Vector β n := Vector.ofFn fun k : Fin n => f v[k]

/-- The element of the set that is valid and holds tag `t` (R142). -/
def CacheSet.find {n : Nat} (c : CacheSet n) (t : BitVec n) : Option (Fin 8) :=
  (List.finRange 8).find? fun e => c.lines[e].valid && decide (c.lines[e].tag = t)

/-- The elements that are not locked. -/
def CacheSet.unlocked {n : Nat} (c : CacheSet n) : List (Fin 8) :=
  (List.finRange 8).filter fun e => !c.lines[e].locked

/-- The victim (R145): the element the LRU bits designate; where that one is locked, the unlocked element that the free
choice `k` picks. An element that is not valid is not preferred; that and the choice are log 23. -/
def CacheSet.victim {n : Nat} (c : CacheSet n) (k : Nat) : Fin 8 :=
  if c.lines[c.lru.victim].locked then c.unlocked.getD (k % c.unlocked.length) c.lru.victim else c.lru.victim

/-- The set with element `e` replaced. -/
def CacheSet.setLine {n : Nat} (c : CacheSet n) (e : Fin 8) (l : Line n) : CacheSet n :=
  { c with lines := c.lines.set e l }

/-- The set after a reference to element `e`. -/
def CacheSet.reference {n : Nat} (c : CacheSet n) (e : Fin 8) : CacheSet n := { c with lru := c.lru.reference e }

/-! ### The data cache -/

/-- The set of a data address: bits 10:6 (R141). -/
def dSet (a : Word) : Fin 32 := (a.extractLsb' 6 5).toFin
/-- The tag of a data address: bits 31:11 (R141). -/
def dTag (a : Word) : BitVec 21 := a.extractLsb' 11 21
/-- The block number of the element with tag `t` in set `k`. -/
def dBlock (k : Fin 32) (t : BitVec 21) : BitVec 26 := t ++ BitVec.ofFin (w := 5) k

/-- The element that holds the block of address `a` (R142). -/
def State.dFind (s : State) (a : Word) : Option (Fin 8) := s.dcache[dSet a].find (dTag a)

/-- The state with set `k` of the data cache replaced. -/
def State.setDSet (s : State) (k : Fin 32) (c : CacheSet 21) : State := { s with dcache := s.dcache.set k c }

/-- Cache event `k` of Table 3-11 has happened `n` times more (R652). -/
def State.countEvent (s : State) (k : Fin 16) (n : Nat) : State :=
  { s with cacheEvents := s.cacheEvents.set k (s.cacheEvents[k] + n) }

/-- Cache event `k` of Table 3-11 has happened once more (R652). -/
def State.cacheEvent (s : State) (k : Fin 16) : State := s.countEvent k 1

/-- The byte of block `k` at offset `i` below the data cache: the newest copyback buffer that holds the block, else
SDRAM (R137). -/
def State.lowerByte (s : State) (k : BitVec 26) (i : Fin 64) : Byte :=
  match s.copyback.find? fun c => decide (c.block = k) with
  | some c => c.data[i]
  | none => s.mem.read (blockBase k + BitVec.ofNat 32 i.val).toNat

/-- A block as it is below the data cache. -/
def State.lowerBlock (s : State) (k : BitVec 26) : Block := Vector.ofFn fun i : Fin 64 => s.lowerByte k i

/-- The bytes of the copyback buffers, newest first, in SDRAM: the oldest is written first. -/
def drainAll : List CopyBack → Mem → Mem
  | [], m => m
  | c :: cs, m => (drainAll cs m).writeBlock c.block c.data

/-- Empty all copyback buffers to SDRAM (R550, R551). -/
def State.drained (s : State) : State := { s with mem := drainAll s.copyback s.mem, copyback := [] }

/-- Empty the oldest copyback buffer to SDRAM (R137). -/
def State.drainOldest (s : State) : State :=
  match s.copyback.getLast? with
  | some c => { s with mem := s.mem.writeBlock c.block c.data, copyback := s.copyback.dropLast }
  | none => s

/-- Take element `e` of set `k` out of use as a victim: a dirty block goes to a copyback buffer (R137). R145 has it
written to SDRAM before the needed block is fetched; the model follows R137, and it reaches SDRAM at a later event (log 25).
Event 7 is counted now, not then (log 34). -/
def State.evict (s : State) (k : Fin 32) (e : Fin 8) : State :=
  let l := s.dcache[k].lines[e]
  if l.valid && l.dirty then
    ({ s with copyback := ⟨dBlock k l.tag, l.data⟩ :: s.copyback }).cacheEvent 7
  else s

/-- The victim of a miss in set `k`, and the state after its eviction (R145). Of two misses of one instruction in one set
the second finds the LRU bits as the first has left them (log 23). -/
def State.takeVictim (s : State) (k : Fin 32) : Fin 8 × State :=
  let c := s.dcache[k]
  if c.lines[c.lru.victim].locked then
    let d := s.drawNat
    (c.victim d.1, d.2.evict k (c.victim d.1))
  else (c.lru.victim, s.evict k c.lru.victim)

/-- Place a block with tag `t` in element `e` of set `k` and reference it; the lock bit stays. -/
def State.place (s : State) (k : Fin 32) (e : Fin 8) (t : BitVec 21) (dirty : Bool) (d : Block) : State :=
  let c := s.dcache[k]
  s.setDSet k ((c.setLine e ⟨true, dirty, c.lines[e].locked, t, d⟩).reference e)

/-- Fetch the block of address `a`, which is not in the cache, over a victim (R143). -/
def State.fill (s : State) (a : Word) : Fin 8 × State :=
  let v := s.takeVictim (dSet a)
  (v.1, v.2.place (dSet a) v.1 (dTag a) false (v.2.lowerBlock (blockOf a)))

/-- A fetch of block `b` has begun, the newest of the two that can be outstanding (R156, R157, log 25). -/
def State.startFetch (s : State) (b : BitVec 26) (prefetch : Bool) : State :=
  { s with fetches := (⟨b, prefetch⟩ :: s.fetches.filter fun f => decide (f.block ≠ b)).take 2 }

/-- The element that holds the block of a cached access, and the state after the reference or the fill (R143, R144);
`miss` is the cache event a miss counts (R652). The fetch stays outstanding after the first word is there (R143). The
second access of an instruction finds what the first has done to the set, hits in the block it has filled (log 23) and
then counts no miss (log 34). -/
def State.dAccess (s : State) (a : Word) (miss : Fin 16) : Fin 8 × State :=
  match s.dFind a with
  | some e => (e, s.setDSet (dSet a) (s.dcache[dSet a].reference e))
  | none => ((s.cacheEvent miss).startFetch (blockOf a) false).fill a

/-- The oldest outstanding fetch is done (R137): the block of a prefetch is filled as by a load miss, unless it is in the
cache by now or no longer cacheable (R156); the block of a miss was filled when it was accessed. The fetch of a prefetch
counts as no read miss (log 34). -/
def State.finishFetch (s : State) : State :=
  match s.fetches.getLast? with
  | none => s
  | some f =>
    let t := { s with fetches := s.fetches.dropLast }
    let a := blockBase f.block
    if f.prefetch && decide (s.region a = .dramCached) && (s.dFind a).isNone then (t.fill a).2 else t

/-- Discard the pending prefetches (R550 to R552). -/
def State.discardPrefetches (s : State) : State := { s with fetches := s.fetches.filter fun f => !f.prefetch }

/-- The byte at address `a` of element `e` in its set. -/
def State.lineByte (s : State) (a : Word) (e : Fin 8) : Byte := s.dcache[dSet a].lines[e].data[blockOffset a]

/-- Put a byte at address `a` of element `e` in its set and mark the block dirty (R144). -/
def State.setLineByte (s : State) (a : Word) (e : Fin 8) (b : Byte) : State :=
  let c := s.dcache[dSet a]
  let l := c.lines[e]
  s.setDSet (dSet a) (c.setLine e { l with data := l.data.set (blockOffset a) b, dirty := true })

/-- Put the bytes `bs` from address `a` on in element `e`. -/
def State.setLineBytes (s : State) (a : Word) (e : Fin 8) : List Byte → State
  | [] => s
  | b :: bs => (s.setLineByte a e b).setLineBytes (a + 1) e bs

/-- The byte of memory at `a` as the core's own loads see it: the cached block in the cacheable part of DRAM, else what
is below it; SDRAM in the non-cacheable part. -/
def State.readByte (s : State) (a : Word) : Byte :=
  match s.region a with
  | .dramCached =>
    match s.dFind a with
    | some e => s.lineByte a e
    | none => s.lowerByte (blockOf a) (blockOffset a)
  | .dramUncached => s.mem.read a.toNat
  | _ => 0

/-! ### Cache-control operations -/

/-- alloc of the block of `a` (R155, log 24): discarded outside cacheable DRAM. The block becomes valid without a fetch;
its bytes and its dirty bit are free values. A block already in the cache keeps its element. Either way the element
counts as referenced (log 24), and a miss counts as no write miss (log 34). -/
def State.allocBlock (s : State) (a : Word) : State :=
  match s.region a with
  | .dramCached =>
    match s.dFind a with
    | some e => s.drawn.place (dSet a) e (dTag a) (Config.freeBool s.freeCount) (freeBlock s.freeCount)
    | none =>
      let v := s.takeVictim (dSet a)
      v.2.drawn.place (dSet a) v.1 (dTag a) (Config.freeBool v.2.freeCount) (freeBlock v.2.freeCount)
  | _ => s

/-- pref of the block of `a` (R156, U11): discarded outside cacheable DRAM, where the block is in the cache or on its way,
and while two fetches are outstanding; else it is a free choice whether its fetch begins. -/
def State.prefetchBlock (s : State) (a : Word) : State :=
  match s.region a with
  | .dramCached =>
    match s.dFind a with
    | some _ => s.cacheEvent 13
    | none =>
      if decide (2 ≤ s.fetches.length) || s.fetches.any (fun f => decide (f.block = blockOf a)) then s
      else
        let d := s.drawBool
        if d.1 then d.2.startFetch (blockOf a) true else d.2
  | _ => s

/-- The state with the line `f` makes of element `e` in set `k`, demoted (R152). -/
def State.touchLine (s : State) (k : Fin 32) (e : Fin 8) (f : Line 21 → Line 21) : State :=
  let c := s.dcache[k]
  s.setDSet k { c.setLine e (f c.lines[e]) with lru := c.lru.demote e }

/-- The element that a dcb or dinvalid at `a` finds: none outside cacheable DRAM (R151, R550, R551). -/
def State.controlTarget (s : State) (a : Word) : Option (Fin 8) :=
  if s.region a = .dramCached then s.dFind a else none

/-- dcb at `a` (R151, R550): pending prefetches are discarded and the copyback buffers emptied; a dirty block that holds
`a` is written to SDRAM and becomes clean; a block that is found becomes least recently used (R152, C1). -/
def State.copyBackBlock (s : State) (a : Word) : State :=
  let s := s.discardPrefetches.drained
  match s.controlTarget a with
  | some e =>
    let l := s.dcache[dSet a].lines[e]
    let s := if l.dirty then { s with mem := s.mem.writeBlock (blockOf a) l.data }.cacheEvent 7 else s
    s.touchLine (dSet a) e fun l => { l with dirty := false }
  | none => s

/-- dinvalid at `a` (R152, R551): pending prefetches are discarded and the copyback buffers emptied; a block that holds
`a` loses its valid and dirty bits, without copyback, and becomes least recently used (C1). -/
def State.invalidateBlock (s : State) (a : Word) : State :=
  let s := s.discardPrefetches.drained
  match s.controlTarget a with
  | some e => s.touchLine (dSet a) e fun l => { l with valid := false, dirty := false }
  | none => s

/-- rdstatus (R154, R553): LRU bits in 9:0, dirty bit of element e in bit 10 + e (D9), zero above. -/
def State.statusWord (s : State) (a : Word) : Word :=
  let c := s.dcache[dSet a]
  (0 : BitVec 14) ++ (bitsOf 8 fun k => c.lines[Fin.ofNat 8 k].dirty) ++ c.lru.image

/-- rdtag (R153, R554): the valid bit in bit 21, the tag in 20:0 (D8), zero above; the tag of an element that is not
valid is a free value. Set a[10:6], element a[13:11]. -/
def State.tagWord (s : State) (a : Word) : Word × State :=
  let l := s.dcache[dSet a].lines[(a.extractLsb' 11 3).toFin]
  if l.valid then ((0 : BitVec 10) ++ (1 : BitVec 1) ++ l.tag, s)
  else ((0 : BitVec 10) ++ (0 : BitVec 1) ++ (Config.freeWord s.freeCount).extractLsb' 0 21, s.drawn)

/-! ### Data cache locking (R150) -/

/-- Copy the block in element `e` of set `k` to SDRAM if it is dirty, and remove it (R150 steps 1 and 2). -/
def State.flushLine (s : State) (k : Fin 32) (e : Fin 8) : State :=
  let c := s.dcache[k]
  let l := c.lines[e]
  let s := if l.valid && l.dirty then { s with mem := s.mem.writeBlock (dBlock k l.tag) l.data }.cacheEvent 7 else s
  s.setDSet k (c.setLine e { l with valid := false, dirty := false })

/-- Lock the block of address `a` in element `e` (R150; the element is the model's choice, log 23): what the element
held and any other copy of the block are flushed, the block is fetched, the set's LRU bits take their initial value. The
fetch counts as no read miss (log 34). -/
def State.lockBlock (s : State) (a : Word) (e : Fin 8) : State :=
  let k := dSet a
  let s := s.flushLine k e
  let s := match s.dFind a with
    | some e' => s.flushLine k e'
    | none => s
  let c := s.dcache[k]
  s.setDSet k { c.setLine e ⟨true, false, true, dTag a, s.lowerBlock (blockOf a)⟩ with lru := Lru.initial }

/-- Lock `n` blocks from address `a` on; block number `j` of the range goes to element `j / 32`. A block outside
cacheable DRAM cannot be cached and is skipped; a range that runs past 0xFFFFFFFF goes on at 0 (log 23). -/
def State.lockBlocks (s : State) (a : Word) (j : Nat) : Nat → State
  | 0 => s
  | n + 1 =>
    let s' := match s.region a with
      | .dramCached => s.lockBlock a (Fin.ofNat 8 (j / 32))
      | _ => s
    s'.lockBlocks (a + 64) (j + 1) n

/-- No element of the set is locked. -/
def CacheSet.unlock {n : Nat} (c : CacheSet n) : CacheSet n :=
  { c with lines := mapEach (fun l => { l with locked := false }) c.lines }

/-- A store to DC_LOCK_CTL (R150): enabling first empties the copyback buffers (log 25) and then locks the range, refused
where it is larger than 8 KB (U9); disabling only unlocks. -/
def State.setDcLock (s : State) (v : Word) : Res State :=
  let s := { s with dcLockCtl := v &&& Config.lockCtlMask, dcache := mapEach CacheSet.unlock s.dcache }
  if v.getLsbD Config.lockEnableBit then
    if 0x2000 < s.dcLockSize.toNat then .error .lockRange
    else .ok (s.drained.lockBlocks s.dcLockAddr 0 (s.dcLockSize.toNat / 64))
  else .ok s

/-! ### The instruction cache -/

/-- The set of an instruction address: bits 11:6 (R159). -/
def iSet (a : Word) : Fin 64 := (a.extractLsb' 6 6).toFin
/-- The tag of an instruction address: bits 31:12 (R159). -/
def iTag (a : Word) : BitVec 20 := a.extractLsb' 12 20

/-- Bring the block of `a` into the cache `ic` and reference it (R160, R162): the cache after that and whether it
missed. A miss fills the victim that `free` helps to choose from SDRAM, never from the data cache. -/
def ICache.ensure (ic : ICache) (m : Mem) (a : Word) (free : Nat) : ICache × Bool :=
  let k := iSet a
  match ic[k].find (iTag a) with
  | some e => (ic.set k (ic[k].reference e), false)
  | none =>
    let e := ic[k].victim free
    (ic.set k ((ic[k].setLine e ⟨true, false, ic[k].lines[e].locked, iTag a, m.readBlock (blockOf a)⟩).reference e), true)

/-- The byte at `a` in the cache `ic`, 0 where its block is not there. -/
def ICache.byte (ic : ICache) (a : Word) : Byte :=
  match ic[iSet a].find (iTag a) with
  | some e => ic[iSet a].lines[e].data[blockOffset a]
  | none => 0

/-- Every element invalid. -/
def ICache.invalidate (c : ICache) : ICache :=
  mapEach (fun k => { k with lines := mapEach (fun l => { l with valid := false }) k.lines }) c

/-- The instructions still to be fetched from caches older than the current one (R552). -/
def oldFetches (os : List OldICache) : Nat := (os.map fun o => o.left).sum

/-- iclr (R161, R552, C15): all valid bits cleared, locked blocks included, the LRU bits initial, pending prefetches
discarded. The next two instructions are still fetched from the caches as they were (log 26): those that an earlier iclr
has left, and then the one this iclr clears. -/
def State.clearICache (s : State) : State :=
  { s.discardPrefetches with
    icache := mapEach (fun k => { k with lru := Lru.initial }) s.icache.invalidate
    icacheOld := if oldFetches s.icacheOld < 2 then s.icacheOld ++ [⟨s.icache, 2 - oldFetches s.icacheOld⟩] else s.icacheOld
    issue := { s.issue with iclr := true } }

/-- Lock `n` blocks from address `a` on in the instruction cache; block number `j` goes to element `j / 64`;
the LRU bits stay as they are (log 23). The fetches count as no instruction cache misses (log 34). -/
def State.lockIBlocks (s : State) (a : Word) (j : Nat) : Nat → State
  | 0 => s
  | n + 1 =>
    let k := iSet a
    let c := s.icache[k].setLine (Fin.ofNat 8 (j / 64)) ⟨true, false, true, iTag a, s.mem.readBlock (blockOf a)⟩
    let s' := if s.inDram a then { s with icache := s.icache.set k c } else s
    s'.lockIBlocks (a + 64) (j + 1) n

/-- A store to IC_LOCK_CTL (R164): enabling invalidates the cache, fetches and locks the range, refused where it is
larger than 16 KB (U9); disabling only unlocks. -/
def State.setIcLock (s : State) (v : Word) : Res State :=
  let s := { s with icLockCtl := v &&& Config.lockCtlMask, icache := mapEach CacheSet.unlock s.icache }
  if v.getLsbD Config.lockEnableBit then
    if 0x4000 < s.icLockSize.toNat then .error .lockRange
    else .ok ({ s with icache := s.icache.invalidate }.lockIBlocks s.icLockAddr 0 (s.icLockSize.toNat / 64))
  else .ok s

end Sys2Proof.Machine
end

