-- ==== Sys2Proof/Machine/CachePack.lean ====
section
/-! DEFINITION. Cache control, byte selection, packing and merging (spec/49_cache_pack.md R550 to R567).
One meaning per operation. -/
namespace Sys2Proof.Machine

/-- ibytesel and ubytesel (R560, R567): byte `b` of `a` extended by `ext`; a free value where `b` is above 3 (U17). -/
def selectByte (g : Reg) (ext : Byte → Word) (a b : Word) (d : Reg) (s : State) : Out :=
  guarded g s fun s =>
    if b < 4 then .next (s.issueResult d (ext (byteAt a b.toNat)) FuncUnit.alu.latency)
    else .next (s.drawn.issueResult d (Config.freeWord s.freeCount) FuncUnit.alu.latency)

/-- dcb (R550). -/
def execDcb (g : Reg) (m : Int) (s1 : Reg) (s : State) : Out :=
  guarded g s fun s => .next (s.copyBackBlock (s.addrDisp s1 m))

/-- dinvalid (R551). -/
def execDinvalid (g : Reg) (m : Int) (s1 : Reg) (s : State) : Out :=
  guarded g s fun s => .next (s.invalidateBlock (s.addrDisp s1 m))

/-- iclr (R552). -/
def execIclr (g : Reg) (s : State) : Out := guarded g s fun s => .next s.clearICache

/-- rdstatus (R553). -/
def execRdstatus (g : Reg) (m : Int) (s1 d : Reg) (s : State) : Out :=
  issueValue .dmemspec g d (s.statusWord (s.addrDisp s1 m)) s

/-- rdtag (R554). -/
def execRdtag (g : Reg) (m : Int) (s1 d : Reg) (s : State) : Out :=
  guarded g s fun s =>
    let p := s.tagWord (s.addrDisp s1 m)
    .next (p.2.issueResult d p.1 FuncUnit.dmemspec.latency)

/-- ibytesel (R560). -/
def execIbytesel (g s1 s2 d : Reg) (s : State) : Out := selectByte g sext8 (s.reg s1) (s.reg s2) d s

/-- mergedual16lsb (R561). -/
def execMergedual16lsb (g s1 s2 d : Reg) (s : State) : Out :=
  issueValue .shifter g d (ofBytes (byteAt (s.reg s1) 2) (byteAt (s.reg s1) 0) (byteAt (s.reg s2) 2) (byteAt (s.reg s2) 0)) s

/-- mergelsb (R562). -/
def execMergelsb (g s1 s2 d : Reg) (s : State) : Out :=
  issueValue .alu g d (ofBytes (byteAt (s.reg s1) 1) (byteAt (s.reg s2) 1) (byteAt (s.reg s1) 0) (byteAt (s.reg s2) 0)) s

/-- mergemsb (R563). -/
def execMergemsb (g s1 s2 d : Reg) (s : State) : Out :=
  issueValue .alu g d (ofBytes (byteAt (s.reg s1) 3) (byteAt (s.reg s2) 3) (byteAt (s.reg s1) 2) (byteAt (s.reg s2) 2)) s

/-- pack16lsb (R564). -/
def execPack16lsb (g s1 s2 d : Reg) (s : State) : Out :=
  issueValue .alu g d (ofHalves (halfAt (s.reg s1) 0) (halfAt (s.reg s2) 0)) s

/-- pack16msb (R565). -/
def execPack16msb (g s1 s2 d : Reg) (s : State) : Out :=
  issueValue .alu g d (ofHalves (halfAt (s.reg s1) 1) (halfAt (s.reg s2) 1)) s

/-- packbytes (R566). -/
def execPackbytes (g s1 s2 d : Reg) (s : State) : Out :=
  issueValue .alu g d (ofBytes 0 0 (byteAt (s.reg s1) 0) (byteAt (s.reg s2) 0)) s

/-- ubytesel (R567). -/
def execUbytesel (g s1 s2 d : Reg) (s : State) : Out := selectByte g zext8 (s.reg s1) (s.reg s2) d s

end Sys2Proof.Machine
end

