-- ==== Sys2Proof/Machine/Control.lean ====
section
/-! DEFINITION. Jumps, nop, cycle counters and special registers (spec/48_control_special.md R510 to R539).
One meaning per operation. -/
namespace Sys2Proof.Machine

/-- A jump (R510, R511): with a true guard and the condition `c`, the instruction after three more is the one at `target`.
-/
def jump (g : Reg) (c interruptible : Bool) (target : Word) (s : State) : Out :=
  guarded g s fun s =>
    .next (if c then { s with redirects := ⟨target, Config.branchDelay, interruptible⟩ :: s.redirects } else s)

/-- The software write of PCSW (R539), refused where it sets RSE or TRPRSE (R43, U3). -/
def writePcsw (value mask : Word) (s : State) : Out :=
  if value &&& mask &&& reservedBits = 0 then .next { s with pcswWrite := some (value, mask) }
  else .refused .reservedPcswBits

/-- jmpf (R520). -/
def execJmpf (g s1 s2 : Reg) (s : State) : Out := jump g (!(s.reg s1).getLsbD 0) false (s.reg s2) s

/-- jmpi (R521). -/
def execJmpi (g : Reg) (a : Word) (s : State) : Out := jump g true false a s

/-- jmpt (R522). -/
def execJmpt (g s1 s2 : Reg) (s : State) : Out := jump g ((s.reg s1).getLsbD 0) false (s.reg s2) s

/-- ijmpf (R523). -/
def execIjmpf (g s1 s2 : Reg) (s : State) : Out := jump g (!(s.reg s1).getLsbD 0) true (s.reg s2) s

/-- ijmpi (R524). -/
def execIjmpi (g : Reg) (a : Word) (s : State) : Out := jump g true true a s

/-- ijmpt (R525). -/
def execIjmpt (g s1 s2 : Reg) (s : State) : Out := jump g ((s.reg s1).getLsbD 0) true (s.reg s2) s

/-- nop (R530). -/
def execNop (s : State) : Out := .next s

/-- cycles (R531). -/
def execCycles (g d : Reg) (s : State) : Out := issueValue .fcomp g d (s.ccSlave.extractLsb' 0 32) s

/-- hicycles (R532). -/
def execHicycles (g d : Reg) (s : State) : Out := issueValue .fcomp g d (s.ccSlave.extractLsb' 32 32) s

/-- curcycles (R533). -/
def execCurcycles (g d : Reg) (s : State) : Out := issueValue .fcomp g d (s.ccMaster.extractLsb' 0 32) s

/-- readdpc (R534). -/
def execReaddpc (g d : Reg) (s : State) : Out := issueValue .fcomp g d (s.dpc) s

/-- readspc (R535). -/
def execReadspc (g d : Reg) (s : State) : Out := issueValue .fcomp g d (s.spc) s

/-- readpcsw (R536). -/
def execReadpcsw (g d : Reg) (s : State) : Out := issueValue .fcomp g d (s.pcsw) s

/-- writedpc (R537). -/
def execWritedpc (g s1 : Reg) (s : State) : Out := guarded g s fun s => .next { s with dpcWrite := some (s.reg s1) }

/-- writespc (R538). -/
def execWritespc (g s1 : Reg) (s : State) : Out := guarded g s fun s => .next { s with spcWrite := some (s.reg s1) }

/-- writepcsw (R539). -/
def execWritepcsw (g s1 s2 : Reg) (s : State) : Out := guarded g s fun s => writePcsw (s.reg s1) (s.reg s2) s

end Sys2Proof.Machine
end

