-- ==== Sys2Proof/Machine/Dsp.lean ====
section
/-! DEFINITION. Clipped, packed and multimedia arithmetic (spec/42_dsp.md R310 to R347).
One meaning per operation. -/
namespace Sys2Proof.Machine

/-- Both halfwords limited to the range from `lo b` to `b`, the unsigned low halfword of the second operand (R326, R327).
-/
def clipHalves (lo : Int → Int) (x y : Word) : Word :=
  mapHalves (fun a _ => wrap16 (min (max a.toInt (lo (uval (halfAt y 0)))) (uval (halfAt y 0)))) x x

/-- The clipped absolute values of both halfwords (R315). -/
def dualAbs (x : Word) : Word := mapHalves (fun a _ => clip16 (a.toInt.natAbs : Int)) x x

/-- dspiabs (R313). -/
def execDspiabs (g s1 d : Reg) (s : State) : Out := issueValue .dspalu g d (clip32 ((s.reg s1).toInt.natAbs : Int)) s

/-- dspiadd (R314). -/
def execDspiadd (g s1 s2 d : Reg) (s : State) : Out :=
  issueValue .dspalu g d (clip32 ((s.reg s1).toInt + (s.reg s2).toInt)) s

/-- dspidualabs (R315). -/
def execDspidualabs (g s1 d : Reg) (s : State) : Out := issueValue .dspalu g d (dualAbs (s.reg s1)) s

/-- dspidualadd (R316). -/
def execDspidualadd (g s1 s2 d : Reg) (s : State) : Out :=
  issueValue .dspalu g d (mapHalves (fun a b => clip16 (a.toInt + b.toInt)) (s.reg s1) (s.reg s2)) s

/-- dspidualmul (R317). -/
def execDspidualmul (g s1 s2 d : Reg) (s : State) : Out :=
  issueValue .dspmul g d (mapHalves (fun a b => clip16 (a.toInt * b.toInt)) (s.reg s1) (s.reg s2)) s

/-- dspidualsub (R318). -/
def execDspidualsub (g s1 s2 d : Reg) (s : State) : Out :=
  issueValue .dspalu g d (mapHalves (fun a b => clip16 (a.toInt - b.toInt)) (s.reg s1) (s.reg s2)) s

/-- dspimul (R319). -/
def execDspimul (g s1 s2 d : Reg) (s : State) : Out :=
  issueValue .ifmul g d (clip32 ((s.reg s1).toInt * (s.reg s2).toInt)) s

/-- dspisub (R320). -/
def execDspisub (g s1 s2 d : Reg) (s : State) : Out :=
  issueValue .dspalu g d (clip32 ((s.reg s1).toInt - (s.reg s2).toInt)) s

/-- dspuadd (R321). -/
def execDspuadd (g s1 s2 d : Reg) (s : State) : Out :=
  issueValue .dspalu g d (clipU32 (uval (s.reg s1) + uval (s.reg s2))) s

/-- dspumul (R322). -/
def execDspumul (g s1 s2 d : Reg) (s : State) : Out :=
  issueValue .ifmul g d (clipU32 (uval (s.reg s1) * uval (s.reg s2))) s

/-- dspuquadaddui (R323). -/
def execDspuquadaddui (g s1 s2 d : Reg) (s : State) : Out :=
  issueValue .dspalu g d (mapBytes (fun a b => clipU8 (uval a + b.toInt)) (s.reg s1) (s.reg s2)) s

/-- dspusub (R324). -/
def execDspusub (g s1 s2 d : Reg) (s : State) : Out :=
  issueValue .dspalu g d (clipU32 (uval (s.reg s1) - uval (s.reg s2))) s

/-- dualasr (R325). -/
def execDualasr (g s1 s2 d : Reg) (s : State) : Out :=
  issueValue .shifter g d (mapHalves (fun a _ => a.sshiftRight (halfShiftAmount (s.reg s2))) (s.reg s1) (s.reg s2)) s

/-- dualiclipi (R326). -/
def execDualiclipi (g s1 s2 d : Reg) (s : State) : Out :=
  issueValue .dspalu g d (clipHalves (fun b => -b - 1) (s.reg s1) (s.reg s2)) s

/-- dualuclipi (R327). -/
def execDualuclipi (g s1 s2 d : Reg) (s : State) : Out :=
  issueValue .dspalu g d (clipHalves (fun _ => 0) (s.reg s1) (s.reg s2)) s

/-- h_dspiabs (R328). -/
def execHDspiabs (g _s1 s2 d : Reg) (s : State) : Out :=
  issueValue .dspalu g d (clip32 ((s.reg s2).toInt.natAbs : Int)) s

/-- h_dspidualabs (R329). -/
def execHDspidualabs (g _s1 s2 d : Reg) (s : State) : Out := issueValue .dspalu g d (dualAbs (s.reg s2)) s

/-- iclipi (R330). -/
def execIclipi (g s1 s2 d : Reg) (s : State) : Out :=
  issueValue .dspalu g d (wrap32 (min (max (s.reg s1).toInt (-uval (s.reg s2) - 1)) (uval (s.reg s2)))) s

/-- ifir16 (R331). -/
def execIfir16 (g s1 s2 d : Reg) (s : State) : Out :=
  issueValue .dspmul g d (clip32 (sumHalves (fun a b => a.toInt * b.toInt) (s.reg s1) (s.reg s2))) s

/-- ifir8ii (R332). -/
def execIfir8ii (g s1 s2 d : Reg) (s : State) : Out :=
  issueValue .dspmul g d (wrap32 (sumBytes (fun a b => a.toInt * b.toInt) (s.reg s1) (s.reg s2))) s

/-- ifir8ui (R333). -/
def execIfir8ui (g s1 s2 d : Reg) (s : State) : Out :=
  issueValue .dspmul g d (wrap32 (sumBytes (fun a b => uval a * b.toInt) (s.reg s1) (s.reg s2))) s

/-- iflip (R334). -/
def execIflip (g s1 s2 d : Reg) (s : State) : Out :=
  issueValue .dspalu g d (if s.reg s1 = 0 then s.reg s2 else -s.reg s2) s

/-- imax (R335). -/
def execImax (g s1 s2 d : Reg) (s : State) : Out :=
  issueValue .dspalu g d (if (s.reg s2).toInt < (s.reg s1).toInt then s.reg s1 else s.reg s2) s

/-- imin (R336). -/
def execImin (g s1 s2 d : Reg) (s : State) : Out :=
  issueValue .dspalu g d (if (s.reg s2).toInt < (s.reg s1).toInt then s.reg s2 else s.reg s1) s

/-- quadavg (R337). -/
def execQuadavg (g s1 s2 d : Reg) (s : State) : Out :=
  issueValue .dspalu g d (mapBytes (fun a b => wrap8 ((uval a + uval b + 1) / 2)) (s.reg s1) (s.reg s2)) s

/-- quadumax (R338). -/
def execQuadumax (g s1 s2 d : Reg) (s : State) : Out :=
  issueValue .dspalu g d (mapBytes (fun a b => if b < a then a else b) (s.reg s1) (s.reg s2)) s

/-- quadumin (R339). -/
def execQuadumin (g s1 s2 d : Reg) (s : State) : Out :=
  issueValue .dspalu g d (mapBytes (fun a b => if a < b then a else b) (s.reg s1) (s.reg s2)) s

/-- quadumulmsb (R340). -/
def execQuadumulmsb (g s1 s2 d : Reg) (s : State) : Out :=
  issueValue .dspmul g d (mapBytes (fun a b => wrap8 (uval a * uval b / 256)) (s.reg s1) (s.reg s2)) s

/-- uclipi (R341). -/
def execUclipi (g s1 s2 d : Reg) (s : State) : Out :=
  issueValue .dspalu g d (wrap32 (min (max (s.reg s1).toInt 0) (uval (s.reg s2)))) s

/-- uclipu (R342). -/
def execUclipu (g s1 s2 d : Reg) (s : State) : Out :=
  issueValue .dspalu g d (if s.reg s2 < s.reg s1 then s.reg s2 else s.reg s1) s

/-- ufir16 (R343). -/
def execUfir16 (g s1 s2 d : Reg) (s : State) : Out :=
  issueValue .dspmul g d (clipU32 (sumHalves (fun a b => uval a * uval b) (s.reg s1) (s.reg s2))) s

/-- ufir8uu (R344). -/
def execUfir8uu (g s1 s2 d : Reg) (s : State) : Out :=
  issueValue .dspmul g d (wrap32 (sumBytes (fun a b => uval a * uval b) (s.reg s1) (s.reg s2))) s

/-- ume8ii (R345). -/
def execUme8ii (g s1 s2 d : Reg) (s : State) : Out :=
  issueValue .dspalu g d (wrap32 (sumBytes (fun a b => (a.toInt - b.toInt).natAbs) (s.reg s1) (s.reg s2))) s

/-- ume8uu (R346). -/
def execUme8uu (g s1 s2 d : Reg) (s : State) : Out :=
  issueValue .dspalu g d (wrap32 (sumBytes (fun a b => (uval a - uval b).natAbs) (s.reg s1) (s.reg s2))) s

/-- umin (R347). -/
def execUmin (g s1 s2 d : Reg) (s : State) : Out :=
  issueValue .dspalu g d (if s.reg s2 < s.reg s1 then s.reg s2 else s.reg s1) s

end Sys2Proof.Machine
end

