-- ==== Sys2Proof/Machine/Float.lean ====
section
/-! DEFINITION. Single-precision arithmetic in flush-to-zero mode (spec/43_float_arith.md R360 to R380;
spec/44_float_conv.md R391, R392; spec/45_float_rel.md R421, R422). Everything is computed exactly on integers and rounded
once. -/
namespace Sys2Proof.Machine

/-- What a floating-point operation computes: `fpresult` and `fpflags` of R360. -/
structure FpOut where
  value : Word
  flags : Word
deriving DecidableEq, Repr

/-! ### Format (R360, R361, R363) -/

/-- The sign bit. -/
def fSign (a : Word) : Bool := a.getLsbD 31
/-- The biased exponent. -/
def fExp (a : Word) : Nat := (a.extractLsb' 23 8).toNat
/-- The fraction. -/
def fFrac (a : Word) : Nat := (a.extractLsb' 0 23).toNat
/-- A NaN. -/
def isNaN (a : Word) : Bool := decide (fExp a = 255) && decide (fFrac a ≠ 0)
/-- A signalling NaN: bit 22 is 0. -/
def isSNaN (a : Word) : Bool := isNaN a && !a.getLsbD 22
/-- An infinity. -/
def isInf (a : Word) : Bool := decide (fExp a = 255) && decide (fFrac a = 0)
/-- A denormalized number. -/
def isDenorm (a : Word) : Bool := decide (fExp a = 0) && decide (fFrac a ≠ 0)
/-- Input flush to zero: a denormalized argument becomes the zero of its sign (R361, D14). -/
def ftz (a : Word) : Word := if isDenorm a then a &&& 0x80000000 else a
/-- IFZ where an argument is denormalized (R361). -/
def ifzFlag (a : Word) : Word := if isDenorm a then flagIFZ else 0
/-- A zero. -/
def isZero (a : Word) : Bool := decide (fExp a = 0) && decide (fFrac a = 0)
/-- The significand of a finite number that is zero or normalized. -/
def mant (a : Word) : Nat := if fExp a = 0 then 0 else 2 ^ 23 + fFrac a
/-- The exponent that goes with `mant`: the value is `mant * 2 ^ expo`. -/
def expo (a : Word) : Int := (fExp a : Int) - 150
/-- The self-generated quiet NaN (R363). -/
def qNaN : Word := 0xFFFFFFFF
/-- Positive infinity. -/
def posInf : Word := 0x7F800000
/-- `w` with the sign `s`. -/
def withSign (s : Bool) (w : Word) : Word := if s then w ||| 0x80000000 else w

/-! ### Rounding (R362, R364) -/

/-- Whether the quotient `m / 2 ^ k` is rounded away from zero in a mode (R38): `odd` its parity, `rem` the remainder. -/
def roundUp (mode : BitVec 2) (sign odd : Bool) (rem k : Nat) : Bool :=
  match mode.toNat with
  | 0 => decide (2 ^ k < 2 * rem) || (decide (2 * rem = 2 ^ k) && odd)
  | 1 => false
  | 2 => decide (rem ≠ 0) && !sign
  | _ => decide (rem ≠ 0) && sign

/-- `m / 2 ^ k` rounded to an integer in a mode, and whether that is inexact. -/
def roundShift (mode : BitVec 2) (sign : Bool) (m k : Nat) : Nat × Bool :=
  let q := m >>> k
  let r := m - (q <<< k)
  (if roundUp mode sign (decide (q % 2 = 1)) r k then q + 1 else q, decide (r ≠ 0))

/-- The result of an overflow (R364): the infinity, or the largest finite number where the mode rounds inwards. -/
def overflowValue (mode : BitVec 2) (sign : Bool) : Word :=
  withSign sign
    (match mode.toNat with
      | 0 => posInf
      | 1 => 0x7F7FFFFF
      | 2 => if sign then 0x7F7FFFFF else posInf
      | _ => if sign then posInf else 0x7F7FFFFF)

/-- The result that stands for a flushed or underflowed one (R362, D15). -/
def flushedZero (sign : Bool) : Word := if Config.ftzZeroKeepsSign then withSign sign 0 else 0

/-- The single of the exact value `m * 2 ^ e`, `m` not 0, with its flags (R362, R364): a result whose rounding is
denormalized is flushed with OFZ, UNF and INX; one that rounds to zero sets UNF and INX; one that exceeds the largest
finite number sets OVF and INX. -/
def roundPack (mode : BitVec 2) (sign : Bool) (m : Nat) (e : Int) : FpOut :=
  let msb : Int := (Nat.log2 m : Int) + e
  let q : Int := if -126 ≤ msb then msb - 23 else -149
  let r := if e < q then roundShift mode sign m (q - e).toNat else (m <<< (e - q).toNat, false)
  let inx : Word := if r.2 then flagINX else 0
  if -126 ≤ msb then
    let top : Bool := decide (r.1 = 2 ^ 24)
    let ex : Int := msb + 127 + (if top then 1 else 0)
    if 254 < ex then ⟨overflowValue mode sign, flagOVF ||| flagINX⟩
    else ⟨withSign sign (BitVec.ofNat 32 (ex.toNat * 2 ^ 23 + (if top then 0 else r.1 - 2 ^ 23))), inx⟩
  else if r.1 = 0 then ⟨flushedZero sign, flagUNF ||| flagINX⟩
  else if r.1 = 2 ^ 23 then ⟨withSign sign 0x00800000, inx⟩
  else ⟨flushedZero sign, flagOFZ ||| flagUNF ||| flagINX⟩

/-! ### NaN arguments (R363, D16) -/

/-- The result of an operation on a NaN: the first NaN argument made quiet; INV where an argument is signalling. -/
def nanOut (a b : Word) : FpOut :=
  ⟨(if isNaN a then a else b) ||| 0x00400000, if isSNaN a || isSNaN b then flagINV else 0⟩

/-- The result of an invalid operation (R363). -/
def invalidOut : FpOut := ⟨qNaN, flagINV⟩

/-- A two-operand operation: NaNs by R363, else `f` on the flushed operands; IFZ is ORed in (R361). -/
def fpBinary (f : Word → Word → FpOut) (a b : Word) : FpOut :=
  let r := if isNaN a || isNaN b then nanOut a b else f (ftz a) (ftz b)
  ⟨r.value, r.flags ||| ifzFlag a ||| ifzFlag b⟩

/-! ### Arithmetic (R364, R368 to R380) -/

/-- The exact sum of two finite numbers, scaled by `2 ^ min`. -/
def exactSum (a b : Word) : Int × Int :=
  let e := min (expo a) (expo b)
  let x : Int := (mant a * 2 ^ (expo a - e).toNat : Nat)
  let y : Int := (mant b * 2 ^ (expo b - e).toNat : Nat)
  ((if fSign a then -x else x) + (if fSign b then -y else y), e)

/-- Addition of numbers that are not NaN or denormalized (R364). -/
def addCore (mode : BitVec 2) (a b : Word) : FpOut :=
  if isInf a then if isInf b && fSign a != fSign b then invalidOut else ⟨a, 0⟩
  else if isInf b then ⟨b, 0⟩
  else
    let x := exactSum a b
    if x.1 = 0 then ⟨withSign (if fSign a = fSign b then fSign a else decide (mode = 3)) 0, 0⟩
    else roundPack mode (decide (x.1 < 0)) x.1.natAbs x.2

/-- fadd (R368). -/
def fpAdd (mode : BitVec 2) (a b : Word) : FpOut := fpBinary (addCore mode) a b
/-- fsub (R379): the addition of the negated second operand, except for NaNs. -/
def fpSub (mode : BitVec 2) (a b : Word) : FpOut := fpBinary (fun x y => addCore mode x (y ^^^ 0x80000000)) a b

/-- Multiplication of numbers that are not NaN or denormalized (R364). -/
def mulCore (mode : BitVec 2) (a b : Word) : FpOut :=
  let sign := fSign a != fSign b
  if isInf a || isInf b then if isZero a || isZero b then invalidOut else ⟨withSign sign posInf, 0⟩
  else if isZero a || isZero b then ⟨withSign sign 0, 0⟩
  else roundPack mode sign (mant a * mant b) (expo a + expo b)

/-- fmul (R372). -/
def fpMul (mode : BitVec 2) (a b : Word) : FpOut := fpBinary (mulCore mode) a b

/-- The exact value `n` between `2 k` and `2 k + 2` as an odd number where it is not `2 k`: enough to round by. -/
def sticky (k : Nat) (inexact : Bool) : Nat := 2 * k + (if inexact then 1 else 0)

/-- Division of numbers that are not NaN or denormalized (R364, R370). -/
def divCore (mode : BitVec 2) (a b : Word) : FpOut :=
  let sign := fSign a != fSign b
  if isInf a then if isInf b then invalidOut else ⟨withSign sign posInf, 0⟩
  else if isInf b then ⟨withSign sign 0, 0⟩
  else if isZero b then if isZero a then invalidOut else ⟨withSign sign posInf, flagDBZ⟩
  else if isZero a then ⟨withSign sign 0, 0⟩
  else
    let n := mant a * 2 ^ 27
    roundPack mode sign (sticky (n / mant b) (decide (n % mant b ≠ 0))) (expo a - expo b - 28)

/-- fdiv (R370). -/
def fpDiv (mode : BitVec 2) (a b : Word) : FpOut := fpBinary (divCore mode) a b

/-- The integer square root of `x` by bits `k - 1` down to 0, above `r`. -/
def isqrtFrom (x : Nat) : Nat → Nat → Nat
  | 0, r => r
  | k + 1, r => isqrtFrom x k (if (r + 2 ^ k) * (r + 2 ^ k) ≤ x then r + 2 ^ k else r)

/-- The integer square root of a number below 2^56. -/
def isqrt (x : Nat) : Nat := isqrtFrom x 28 0

/-- The square root of a number that is not NaN or denormalized (R364, R377). -/
def sqrtCore (mode : BitVec 2) (a : Word) : FpOut :=
  if isZero a then ⟨a, 0⟩
  else if fSign a then invalidOut
  else if isInf a then ⟨a, 0⟩
  else
    let k : Nat := if expo a % 2 = 0 then 30 else 31
    let n := mant a * 2 ^ k
    let r := isqrt n
    roundPack mode false (sticky r (decide (r * r ≠ n))) ((expo a - k) / 2 - 1)

/-- fsqrt (R377). -/
def fpSqrt (mode : BitVec 2) (a : Word) : FpOut :=
  let r := if isNaN a then nanOut a a else sqrtCore mode (ftz a)
  ⟨r.value, r.flags ||| ifzFlag a⟩

/-- fabsval (R366, D17). -/
def fpAbs (a : Word) : FpOut :=
  if isNaN a then nanOut a a
  else if isDenorm a then ⟨0, flagIFZ⟩
  else ⟨a &&& 0x7FFFFFFF, 0⟩

/-- fsign (R374): a NaN of either kind is invalid. -/
def fpSign (a : Word) : FpOut :=
  if isNaN a then ⟨0, flagINV⟩
  else if isDenorm a then ⟨0, flagIFZ⟩
  else if isZero a then ⟨0, 0⟩
  else if fSign a then ⟨0xFFFFFFFF, 0⟩
  else ⟨1, 0⟩

/-! ### Conversion (R391, R392) -/

/-- The mode that rounds toward zero. -/
def towardZero : BitVec 2 := 1

/-- `fix` (R391): a float to an integer between `lo` and `hi`. -/
def fpFix (mode : BitVec 2) (lo hi : Int) (a : Word) : FpOut :=
  if isNaN a then ⟨0, flagINV⟩
  else if isDenorm a then ⟨0, flagIFZ⟩
  else if isInf a then ⟨wrap32 (if fSign a then lo else hi), flagINV⟩
  else
    let r := if expo a < 0 then roundShift mode (fSign a) (mant a) (-(expo a)).toNat
      else (mant a * 2 ^ (expo a).toNat, false)
    let n : Int := if fSign a then -(r.1 : Int) else r.1
    if hi < n then ⟨wrap32 hi, flagINV⟩
    else if n < lo then ⟨wrap32 lo, flagINV⟩
    else ⟨wrap32 n, if r.2 then flagINX else 0⟩

/-- Float to signed integer (R394, R396). -/
def fpToInt (mode : BitVec 2) (a : Word) : FpOut := fpFix mode (-2147483648) 2147483647 a
/-- Float to unsigned integer (R402, R404). -/
def fpToUInt (mode : BitVec 2) (a : Word) : FpOut := fpFix mode 0 4294967295 a

/-- `flt` (R392): an integer to a float. -/
def fpFlt (mode : BitVec 2) (v : Int) : FpOut :=
  if v = 0 then ⟨0, 0⟩ else roundPack mode (decide (v < 0)) v.natAbs 0

/-- Signed integer to float (R398, R400). -/
def fpOfInt (mode : BitVec 2) (a : Word) : FpOut := fpFlt mode a.toInt
/-- Unsigned integer to float (R406, R408). -/
def fpOfUInt (mode : BitVec 2) (a : Word) : FpOut := fpFlt mode (uval a)

/-! ### Comparison (R421, R422) -/

/-- The outcome of `fcmp` (R422). -/
inductive FpRel
  | lt | eq | gt | un
deriving DecidableEq, Repr

/-- An integer in the order of the floating-point numbers, +0 and -0 both 0. -/
def fpKey (a : Word) : Int := if fSign a then -(uval (a &&& 0x7FFFFFFF)) else uval (a &&& 0x7FFFFFFF)

/-- The relation of two register values after input flush (R422). -/
def fpRel (a b : Word) : FpRel :=
  if isNaN a || isNaN b then .un
  else if fpKey (ftz a) < fpKey (ftz b) then .lt
  else if fpKey (ftz a) = fpKey (ftz b) then .eq
  else .gt

/-- The flags of a comparison (R421): IFZ for denormalized operands; INV for an unordered pair where `quietInvalid`,
else only for a signalling NaN. -/
def fpCmpFlags (quietInvalid : Bool) (a b : Word) : Word :=
  ifzFlag a ||| ifzFlag b |||
    (if (if quietInvalid then isNaN a || isNaN b else isSNaN a || isSNaN b) then flagINV else 0)

/-- feql (R423). -/
def fpEql (a b : Word) : FpOut := ⟨ofBool (decide (fpRel a b = .eq)), fpCmpFlags false a b⟩
/-- fneq (R433, D18). -/
def fpNeq (a b : Word) : FpOut :=
  ⟨if fpRel a b = .un then Config.fneqUnordered else ofBool (decide (fpRel a b ≠ .eq)), fpCmpFlags false a b⟩
/-- fgtr (R427). -/
def fpGtr (a b : Word) : FpOut := ⟨ofBool (decide (fpRel a b = .gt)), fpCmpFlags true a b⟩
/-- fgeq (R425). -/
def fpGeq (a b : Word) : FpOut :=
  ⟨ofBool (decide (fpRel a b = .gt) || decide (fpRel a b = .eq)), fpCmpFlags true a b⟩

/-! ### Issue (R360, R365) -/

/-- A guarded floating-point operation of unit `u`: the result reaches `d` and its flags reach PCSW together (R365). -/
def issueFloat (u : FuncUnit) (g d : Reg) (r : FpOut) (s : State) : Out :=
  guarded g s fun s => .next ((s.issueResult d r.value u.latency).issueFlags r.flags u.latency)

/-- The `flags` form: the flag vector reaches `d`, PCSW is unchanged (R360). -/
def issueFloatFlags (u : FuncUnit) (g d : Reg) (r : FpOut) (s : State) : Out := issueValue u g d r.flags s

/-- An operation of the ftough unit (R376): refused while the unit has not recovered (U24), whatever the guards;
otherwise the unit is occupied and `f` is performed. -/
def onFtough (f : State → Out) (s : State) : Out :=
  if s.ftoughBusy = 0 then f { s with ftoughBusy := Config.ftoughRecovery } else .refused .ftoughBusy

end Sys2Proof.Machine
end

