-- ==== Sys2Proof/Machine/FloatArith.lean ====
section
/-! DEFINITION. Floating-point arithmetic (spec/43_float_arith.md R360 to R380).
One meaning per operation. -/
namespace Sys2Proof.Machine

/-- fabsval (R366). -/
def execFabsval (g s1 d : Reg) (s : State) : Out := issueFloat .falu g d (fpAbs (s.reg s1)) s

/-- fabsvalflags (R367). -/
def execFabsvalflags (g s1 d : Reg) (s : State) : Out := issueFloatFlags .falu g d (fpAbs (s.reg s1)) s

/-- fadd (R368). -/
def execFadd (g s1 s2 d : Reg) (s : State) : Out :=
  issueFloat .falu g d (fpAdd (ieeeMode s.pcsw) (s.reg s1) (s.reg s2)) s

/-- faddflags (R369). -/
def execFaddflags (g s1 s2 d : Reg) (s : State) : Out :=
  issueFloatFlags .falu g d (fpAdd (ieeeMode s.pcsw) (s.reg s1) (s.reg s2)) s

/-- fdiv (R370). -/
def execFdiv (g s1 s2 d : Reg) (s : State) : Out :=
  onFtough (fun s => issueFloat .ftough g d (fpDiv (ieeeMode s.pcsw) (s.reg s1) (s.reg s2)) s) s

/-- fdivflags (R371). -/
def execFdivflags (g s1 s2 d : Reg) (s : State) : Out :=
  onFtough (fun s => issueFloatFlags .ftough g d (fpDiv (ieeeMode s.pcsw) (s.reg s1) (s.reg s2)) s) s

/-- fmul (R372). -/
def execFmul (g s1 s2 d : Reg) (s : State) : Out :=
  issueFloat .ifmul g d (fpMul (ieeeMode s.pcsw) (s.reg s1) (s.reg s2)) s

/-- fmulflags (R373). -/
def execFmulflags (g s1 s2 d : Reg) (s : State) : Out :=
  issueFloatFlags .ifmul g d (fpMul (ieeeMode s.pcsw) (s.reg s1) (s.reg s2)) s

/-- fsign (R374). -/
def execFsign (g s1 d : Reg) (s : State) : Out := issueFloat .fcomp g d (fpSign (s.reg s1)) s

/-- fsignflags (R375). -/
def execFsignflags (g s1 d : Reg) (s : State) : Out := issueFloatFlags .fcomp g d (fpSign (s.reg s1)) s

/-- fsqrt (R377). -/
def execFsqrt (g s1 d : Reg) (s : State) : Out :=
  onFtough (fun s => issueFloat .ftough g d (fpSqrt (ieeeMode s.pcsw) (s.reg s1)) s) s

/-- fsqrtflags (R378). -/
def execFsqrtflags (g s1 d : Reg) (s : State) : Out :=
  onFtough (fun s => issueFloatFlags .ftough g d (fpSqrt (ieeeMode s.pcsw) (s.reg s1)) s) s

/-- fsub (R379). -/
def execFsub (g s1 s2 d : Reg) (s : State) : Out :=
  issueFloat .falu g d (fpSub (ieeeMode s.pcsw) (s.reg s1) (s.reg s2)) s

/-- fsubflags (R380). -/
def execFsubflags (g s1 s2 d : Reg) (s : State) : Out :=
  issueFloatFlags .falu g d (fpSub (ieeeMode s.pcsw) (s.reg s1) (s.reg s2)) s

end Sys2Proof.Machine
end

