-- ==== Sys2Proof/Machine/FloatConv.lean ====
section
/-! DEFINITION. Conversions between integers and floating point (spec/44_float_conv.md R390 to R409).
One meaning per operation. -/
namespace Sys2Proof.Machine

/-- ifixieee (R394). -/
def execIfixieee (g s1 d : Reg) (s : State) : Out := issueFloat .falu g d (fpToInt (ieeeMode s.pcsw) (s.reg s1)) s

/-- ifixieeeflags (R395). -/
def execIfixieeeflags (g s1 d : Reg) (s : State) : Out :=
  issueFloatFlags .falu g d (fpToInt (ieeeMode s.pcsw) (s.reg s1)) s

/-- ifixrz (R396). -/
def execIfixrz (g s1 d : Reg) (s : State) : Out := issueFloat .falu g d (fpToInt towardZero (s.reg s1)) s

/-- ifixrzflags (R397). -/
def execIfixrzflags (g s1 d : Reg) (s : State) : Out := issueFloatFlags .falu g d (fpToInt towardZero (s.reg s1)) s

/-- ifloat (R398). -/
def execIfloat (g s1 d : Reg) (s : State) : Out := issueFloat .falu g d (fpOfInt (ieeeMode s.pcsw) (s.reg s1)) s

/-- ifloatflags (R399). -/
def execIfloatflags (g s1 d : Reg) (s : State) : Out :=
  issueFloatFlags .falu g d (fpOfInt (ieeeMode s.pcsw) (s.reg s1)) s

/-- ifloatrz (R400). -/
def execIfloatrz (g s1 d : Reg) (s : State) : Out := issueFloat .falu g d (fpOfInt towardZero (s.reg s1)) s

/-- ifloatrzflags (R401). -/
def execIfloatrzflags (g s1 d : Reg) (s : State) : Out := issueFloatFlags .falu g d (fpOfInt towardZero (s.reg s1)) s

/-- ufixieee (R402). -/
def execUfixieee (g s1 d : Reg) (s : State) : Out := issueFloat .falu g d (fpToUInt (ieeeMode s.pcsw) (s.reg s1)) s

/-- ufixieeeflags (R403). -/
def execUfixieeeflags (g s1 d : Reg) (s : State) : Out :=
  issueFloatFlags .falu g d (fpToUInt (ieeeMode s.pcsw) (s.reg s1)) s

/-- ufixrz (R404). -/
def execUfixrz (g s1 d : Reg) (s : State) : Out := issueFloat .falu g d (fpToUInt towardZero (s.reg s1)) s

/-- ufixrzflags (R405). -/
def execUfixrzflags (g s1 d : Reg) (s : State) : Out := issueFloatFlags .falu g d (fpToUInt towardZero (s.reg s1)) s

/-- ufloat (R406). -/
def execUfloat (g s1 d : Reg) (s : State) : Out := issueFloat .falu g d (fpOfUInt (ieeeMode s.pcsw) (s.reg s1)) s

/-- ufloatflags (R407). -/
def execUfloatflags (g s1 d : Reg) (s : State) : Out :=
  issueFloatFlags .falu g d (fpOfUInt (ieeeMode s.pcsw) (s.reg s1)) s

/-- ufloatrz (R408). -/
def execUfloatrz (g s1 d : Reg) (s : State) : Out := issueFloat .falu g d (fpOfUInt towardZero (s.reg s1)) s

/-- ufloatrzflags (R409). -/
def execUfloatrzflags (g s1 d : Reg) (s : State) : Out := issueFloatFlags .falu g d (fpOfUInt towardZero (s.reg s1)) s

end Sys2Proof.Machine
end

