-- ==== Sys2Proof/Machine/FloatRel.lean ====
section
/-! DEFINITION. Floating-point comparisons (spec/45_float_rel.md R420 to R434).
One meaning per operation. -/
namespace Sys2Proof.Machine

/-- feql (R423). -/
def execFeql (g s1 s2 d : Reg) (s : State) : Out := issueFloat .fcomp g d (fpEql (s.reg s1) (s.reg s2)) s

/-- feqlflags (R424). -/
def execFeqlflags (g s1 s2 d : Reg) (s : State) : Out := issueFloatFlags .fcomp g d (fpEql (s.reg s1) (s.reg s2)) s

/-- fgeq (R425). -/
def execFgeq (g s1 s2 d : Reg) (s : State) : Out := issueFloat .fcomp g d (fpGeq (s.reg s1) (s.reg s2)) s

/-- fgeqflags (R426). -/
def execFgeqflags (g s1 s2 d : Reg) (s : State) : Out := issueFloatFlags .fcomp g d (fpGeq (s.reg s1) (s.reg s2)) s

/-- fgtr (R427). -/
def execFgtr (g s1 s2 d : Reg) (s : State) : Out := issueFloat .fcomp g d (fpGtr (s.reg s1) (s.reg s2)) s

/-- fgtrflags (R428). -/
def execFgtrflags (g s1 s2 d : Reg) (s : State) : Out := issueFloatFlags .fcomp g d (fpGtr (s.reg s1) (s.reg s2)) s

/-- fleq (R429). -/
def execFleq (g s1 s2 d : Reg) (s : State) : Out := issueFloat .fcomp g d (fpGeq (s.reg s2) (s.reg s1)) s

/-- fleqflags (R430). -/
def execFleqflags (g s1 s2 d : Reg) (s : State) : Out := issueFloatFlags .fcomp g d (fpGeq (s.reg s2) (s.reg s1)) s

/-- fles (R431). -/
def execFles (g s1 s2 d : Reg) (s : State) : Out := issueFloat .fcomp g d (fpGtr (s.reg s2) (s.reg s1)) s

/-- flesflags (R432). -/
def execFlesflags (g s1 s2 d : Reg) (s : State) : Out := issueFloatFlags .fcomp g d (fpGtr (s.reg s2) (s.reg s1)) s

/-- fneq (R433). -/
def execFneq (g s1 s2 d : Reg) (s : State) : Out := issueFloat .fcomp g d (fpNeq (s.reg s1) (s.reg s2)) s

/-- fneqflags (R434). -/
def execFneqflags (g s1 s2 d : Reg) (s : State) : Out := issueFloatFlags .fcomp g d (fpNeq (s.reg s1) (s.reg s2)) s

end Sys2Proof.Machine
end

