-- ==== Sys2Proof/Machine/IntArith.lean ====
section
/-! DEFINITION. Integer arithmetic, immediates and extensions (spec/46_int_arith_imm_ext.md R440 to R464).
One meaning per operation. -/
namespace Sys2Proof.Machine

/-- borrow (R442). -/
def execBorrow (g s1 s2 d : Reg) (s : State) : Out := issueValue .alu g d (ofBool (decide (s.reg s1 < s.reg s2))) s

/-- carry (R443). -/
def execCarry (g s1 s2 d : Reg) (s : State) : Out :=
  issueValue .alu g d (ofBool (decide (4294967296 ≤ uval (s.reg s1) + uval (s.reg s2)))) s

/-- h_iabs (R444). -/
def execHIabs (g _s1 s2 d : Reg) (s : State) : Out :=
  issueValue .alu g d (if (s.reg s2).toInt < 0 then -s.reg s2 else s.reg s2) s

/-- iabs (R445). -/
def execIabs (g s1 d : Reg) (s : State) : Out :=
  issueValue .alu g d (if (s.reg s1).toInt < 0 then -s.reg s1 else s.reg s1) s

/-- iadd (R446). -/
def execIadd (g s1 s2 d : Reg) (s : State) : Out := issueValue .alu g d (s.reg s1 + s.reg s2) s

/-- iaddi (R447). -/
def execIaddi (g : Reg) (m : Int) (s1 d : Reg) (s : State) : Out := issueValue .alu g d (s.reg s1 + BitVec.ofInt 32 m) s

/-- iavgonep (R448). -/
def execIavgonep (g s1 s2 d : Reg) (s : State) : Out :=
  issueValue .dspalu g d (wrap32 (((s.reg s1).toInt + (s.reg s2).toInt + 1) / 2)) s

/-- ident (R449). -/
def execIdent (g s1 d : Reg) (s : State) : Out := issueValue .alu g d (s.reg s1) s

/-- imul (R450). -/
def execImul (g s1 s2 d : Reg) (s : State) : Out :=
  issueValue .ifmul g d (wrap32 ((s.reg s1).toInt * (s.reg s2).toInt)) s

/-- imulm (R451). -/
def execImulm (g s1 s2 d : Reg) (s : State) : Out :=
  issueValue .ifmul g d (wrap32 ((s.reg s1).toInt * (s.reg s2).toInt / 4294967296)) s

/-- ineg (R452). -/
def execIneg (g s1 d : Reg) (s : State) : Out := issueValue .alu g d (0 - s.reg s1) s

/-- inonzero (R453). -/
def execInonzero (g s1 s2 d : Reg) (s : State) : Out := issueValue .alu g d (if s.reg s1 ≠ 0 then 0 else s.reg s2) s

/-- isub (R454). -/
def execIsub (g s1 s2 d : Reg) (s : State) : Out := issueValue .alu g d (s.reg s1 - s.reg s2) s

/-- isubi (R455). -/
def execIsubi (g : Reg) (m : Int) (s1 d : Reg) (s : State) : Out := issueValue .alu g d (s.reg s1 - BitVec.ofInt 32 m) s

/-- izero (R456). -/
def execIzero (g s1 s2 d : Reg) (s : State) : Out := issueValue .alu g d (if s.reg s1 = 0 then 0 else s.reg s2) s

/-- umul (R457). -/
def execUmul (g s1 s2 d : Reg) (s : State) : Out := issueValue .ifmul g d (wrap32 (uval (s.reg s1) * uval (s.reg s2))) s

/-- umulm (R458). -/
def execUmulm (g s1 s2 d : Reg) (s : State) : Out :=
  issueValue .ifmul g d (wrap32 (uval (s.reg s1) * uval (s.reg s2) / 4294967296)) s

/-- iimm (R459). -/
def execIimm (m : Int) (d : Reg) (s : State) : Out := .next (s.issueResult d (BitVec.ofInt 32 m) FuncUnit.const.latency)

/-- uimm (R460). -/
def execUimm (m : Int) (d : Reg) (s : State) : Out := .next (s.issueResult d (BitVec.ofInt 32 m) FuncUnit.const.latency)

/-- sex16 (R461). -/
def execSex16 (g s1 d : Reg) (s : State) : Out := issueValue .alu g d (sext16 (halfAt (s.reg s1) 0)) s

/-- sex8 (R462). -/
def execSex8 (g s1 d : Reg) (s : State) : Out := issueValue .alu g d (sext8 (byteAt (s.reg s1) 0)) s

/-- zex16 (R463). -/
def execZex16 (g s1 d : Reg) (s : State) : Out := issueValue .alu g d (zext16 (halfAt (s.reg s1) 0)) s

/-- zex8 (R464). -/
def execZex8 (g s1 d : Reg) (s : State) : Out := issueValue .alu g d (zext8 (byteAt (s.reg s1) 0)) s

end Sys2Proof.Machine
end

