-- ==== Sys2Proof/Machine/IntRel.lean ====
section
/-! DEFINITION. Integer comparisons (spec/47_int_relational.md R480 to R505).
One meaning per operation. -/
namespace Sys2Proof.Machine

/-- ieql (R482). -/
def execIeql (g s1 s2 d : Reg) (s : State) : Out :=
  issueValue .alu g d (ofBool (decide ((s.reg s1).toInt = (s.reg s2).toInt))) s

/-- ieqli (R483). -/
def execIeqli (g : Reg) (m : Int) (s1 d : Reg) (s : State) : Out :=
  issueValue .alu g d (ofBool (decide ((s.reg s1).toInt = m))) s

/-- igeq (R484). -/
def execIgeq (g s1 s2 d : Reg) (s : State) : Out :=
  issueValue .alu g d (ofBool (decide ((s.reg s2).toInt ≤ (s.reg s1).toInt))) s

/-- igeqi (R485). -/
def execIgeqi (g : Reg) (m : Int) (s1 d : Reg) (s : State) : Out :=
  issueValue .alu g d (ofBool (decide (m ≤ (s.reg s1).toInt))) s

/-- igtr (R486). -/
def execIgtr (g s1 s2 d : Reg) (s : State) : Out :=
  issueValue .alu g d (ofBool (decide ((s.reg s2).toInt < (s.reg s1).toInt))) s

/-- igtri (R487). -/
def execIgtri (g : Reg) (m : Int) (s1 d : Reg) (s : State) : Out :=
  issueValue .alu g d (ofBool (decide (m < (s.reg s1).toInt))) s

/-- ileq (R488). -/
def execIleq (g s1 s2 d : Reg) (s : State) : Out :=
  issueValue .alu g d (ofBool (decide ((s.reg s1).toInt ≤ (s.reg s2).toInt))) s

/-- ileqi (R489). -/
def execIleqi (g : Reg) (m : Int) (s1 d : Reg) (s : State) : Out :=
  issueValue .alu g d (ofBool (decide ((s.reg s1).toInt ≤ m))) s

/-- iles (R490). -/
def execIles (g s1 s2 d : Reg) (s : State) : Out :=
  issueValue .alu g d (ofBool (decide ((s.reg s1).toInt < (s.reg s2).toInt))) s

/-- ilesi (R491). -/
def execIlesi (g : Reg) (m : Int) (s1 d : Reg) (s : State) : Out :=
  issueValue .alu g d (ofBool (decide ((s.reg s1).toInt < m))) s

/-- ineq (R492). -/
def execIneq (g s1 s2 d : Reg) (s : State) : Out :=
  issueValue .alu g d (ofBool (decide ((s.reg s1).toInt ≠ (s.reg s2).toInt))) s

/-- ineqi (R493). -/
def execIneqi (g : Reg) (m : Int) (s1 d : Reg) (s : State) : Out :=
  issueValue .alu g d (ofBool (decide ((s.reg s1).toInt ≠ m))) s

/-- ueql (R494). -/
def execUeql (g s1 s2 d : Reg) (s : State) : Out :=
  issueValue .alu g d (ofBool (decide (uval (s.reg s1) = uval (s.reg s2)))) s

/-- ueqli (R495). -/
def execUeqli (g : Reg) (m : Int) (s1 d : Reg) (s : State) : Out :=
  issueValue .alu g d (ofBool (decide (uval (s.reg s1) = m))) s

/-- ugeq (R496). -/
def execUgeq (g s1 s2 d : Reg) (s : State) : Out :=
  issueValue .alu g d (ofBool (decide (uval (s.reg s2) ≤ uval (s.reg s1)))) s

/-- ugeqi (R497). -/
def execUgeqi (g : Reg) (m : Int) (s1 d : Reg) (s : State) : Out :=
  issueValue .alu g d (ofBool (decide (m ≤ uval (s.reg s1)))) s

/-- ugtr (R498). -/
def execUgtr (g s1 s2 d : Reg) (s : State) : Out :=
  issueValue .alu g d (ofBool (decide (uval (s.reg s2) < uval (s.reg s1)))) s

/-- ugtri (R499). -/
def execUgtri (g : Reg) (m : Int) (s1 d : Reg) (s : State) : Out :=
  issueValue .alu g d (ofBool (decide (m < uval (s.reg s1)))) s

/-- uleq (R500). -/
def execUleq (g s1 s2 d : Reg) (s : State) : Out :=
  issueValue .alu g d (ofBool (decide (uval (s.reg s1) ≤ uval (s.reg s2)))) s

/-- uleqi (R501). -/
def execUleqi (g : Reg) (m : Int) (s1 d : Reg) (s : State) : Out :=
  issueValue .alu g d (ofBool (decide (uval (s.reg s1) ≤ m))) s

/-- ules (R502). -/
def execUles (g s1 s2 d : Reg) (s : State) : Out :=
  issueValue .alu g d (ofBool (decide (uval (s.reg s1) < uval (s.reg s2)))) s

/-- ulesi (R503). -/
def execUlesi (g : Reg) (m : Int) (s1 d : Reg) (s : State) : Out :=
  issueValue .alu g d (ofBool (decide (uval (s.reg s1) < m))) s

/-- uneq (R504). -/
def execUneq (g s1 s2 d : Reg) (s : State) : Out :=
  issueValue .alu g d (ofBool (decide (uval (s.reg s1) ≠ uval (s.reg s2)))) s

/-- uneqi (R505). -/
def execUneqi (g : Reg) (m : Int) (s1 d : Reg) (s : State) : Out :=
  issueValue .alu g d (ofBool (decide (uval (s.reg s1) ≠ m))) s

end Sys2Proof.Machine
end

