-- ==== Sys2Proof/Machine/Mmio.lean ====
section
/-! DEFINITION. The MMIO registers of the core: where they are, what a load returns and what a store does
(spec/10_state.md R51 to R78; spec/20_memory.md R124 to R127, R130, R131, R163). -/
namespace Sys2Proof.Machine

/-- The core-internal registers (R52). -/
inductive MmioReg
  | memEvents | dcLockCtl | dcLockAddr | dcLockSize | dcParams | icParams | ctl | dramLo | dramHi | dramClimit
  | apert1Lo | apert1Hi | startAddr | pc | powerDown | icLockCtl | icLockAddr | icLockSize | sem | excvec
  | isetting (k : Fin 4) | ipending | iclear | imask | intvec (n : Fin 32)
  | tmodulus (k : Fin 4) | tvalue (k : Fin 4) | tctl (k : Fin 4)
  | modid | bictl | binstLow | binstHigh | bdctl | bdataALow | bdataAHigh | bdataVal | bdataMask
  /-- a register that does not exist (R127) -/
  | absent
deriving DecidableEq, Repr

/-- The register at a core-internal offset 0x100000..0x101FFF (R52). -/
def mmioReg (off : Nat) : MmioReg :=
  if off = 0x10000C then .memEvents
  else if off = 0x100010 then .dcLockCtl
  else if off = 0x100014 then .dcLockAddr
  else if off = 0x100018 then .dcLockSize
  else if off = 0x10001C then .dcParams
  else if off = 0x100020 then .icParams
  else if off = 0x100030 then .ctl
  else if off = 0x100034 then .dramLo
  else if off = 0x100038 then .dramHi
  else if off = 0x10003C then .dramClimit
  else if off = 0x100040 then .apert1Lo
  else if off = 0x100044 then .apert1Hi
  else if off = 0x100048 then .startAddr
  else if off = 0x10004C then .pc
  else if off = 0x100108 then .powerDown
  else if off = 0x100210 then .icLockCtl
  else if off = 0x100214 then .icLockAddr
  else if off = 0x100218 then .icLockSize
  else if off = 0x100500 then .sem
  else if off = 0x100800 then .excvec
  else if 0x100810 ≤ off ∧ off ≤ 0x10081C ∧ off % 4 = 0 then .isetting (Fin.ofNat 4 ((off - 0x100810) / 4))
  else if off = 0x100820 then .ipending
  else if off = 0x100824 then .iclear
  else if off = 0x100828 then .imask
  else if 0x100880 ≤ off ∧ off ≤ 0x1008FC ∧ off % 4 = 0 then .intvec (Fin.ofNat 32 ((off - 0x100880) / 4))
  else if 0x100C00 ≤ off ∧ off < 0x100C80 ∧ off % 0x20 = 0 then .tmodulus (Fin.ofNat 4 ((off - 0x100C00) / 0x20))
  else if 0x100C00 ≤ off ∧ off < 0x100C80 ∧ off % 0x20 = 4 then .tvalue (Fin.ofNat 4 ((off - 0x100C00) / 0x20))
  else if 0x100C00 ≤ off ∧ off < 0x100C80 ∧ off % 0x20 = 8 then .tctl (Fin.ofNat 4 ((off - 0x100C00) / 0x20))
  else if off = 0x100FFC then .modid
  else if off = 0x101000 then .bictl
  else if off = 0x101004 then .binstLow
  else if off = 0x101008 then .binstHigh
  else if off = 0x101020 then .bdctl
  else if off = 0x101030 then .bdataALow
  else if off = 0x101034 then .bdataAHigh
  else if off = 0x101038 then .bdataVal
  else if off = 0x10103C then .bdataMask
  else .absent

/-- The sub-areas of the MMIO aperture (R126). -/
inductive MmioArea
  /-- instruction cache tags and LRU bits -/
  | tags
  /-- core-internal registers -/
  | core
  /-- PI-bus system device registers -/
  | bus
deriving DecidableEq, Repr

/-- The sub-area of an offset (R126). -/
def mmioArea (off : Nat) : MmioArea :=
  if off < 0x10000 then .tags else if 0x100000 ≤ off ∧ off < 0x102000 then .core else .bus

/-- A word whose bits outside `mask` are undefined: they read as free bits (U28). -/
def State.withFreeBits (s : State) (mask v : Word) : Word × State :=
  ((v &&& mask) ||| (Config.freeWord s.freeCount &&& ~~~mask), s.drawn)

/-- The mode mask: bit `n` is 1 where source `n` is edge-triggered (R60). -/
def State.edgeSources (s : State) : Word := bitsOf 32 fun k => !s.levelSensitive (Fin.ofNat 32 k)

/-- TM32_CTL's defined bits: PLL_EN and RATIO (R53). -/
def State.ctlWord (s : State) : Word := (0 : BitVec 25) ++ s.ctlPllEn ++ s.ctlRatio

/-- What a read of a core-internal register returns (R51 to R78), by the core or a PI master. No read has a side effect
on the machine (R108); undefined bits are drawn (U28). -/
def State.readMmioReg (s : State) : MmioReg → Word × State
  | .memEvents => s.withFreeBits Config.memEventsMask s.memEvents
  | .dcLockCtl => s.withFreeBits Config.lockCtlMask s.dcLockCtl
  | .dcLockAddr => (s.dcLockAddr, s)
  | .dcLockSize => (s.dcLockSize, s)
  | .dcParams => (Config.paramsImage Config.dcParams, s)
  | .icParams => (Config.paramsImage Config.icParams, s)
  | .ctl => s.withFreeBits 0x7F s.ctlWord
  | .dramLo => (s.dramLo, s)
  | .dramHi => (s.dramHi, s)
  | .dramClimit => (s.dramClimit, s)
  | .apert1Lo => (s.apert1Lo, s)
  | .apert1Hi => (s.apert1Hi, s)
  | .startAddr => (s.startAddr, s)
  | .pc => (s.pc, s)
  | .powerDown => s.drawWord
  | .icLockCtl => s.withFreeBits Config.lockCtlMask s.icLockCtl
  | .icLockAddr => (s.icLockAddr, s)
  | .icLockSize => (s.icLockSize, s)
  | .sem => (s.sem.setWidth 32, s)
  | .excvec => (s.excvec, s)
  | .isetting k => (s.isetting[k], s)
  | .ipending => (s.ipending, s)
  | .iclear => (s.ipending, s)
  | .imask => (s.imask, s)
  | .intvec n => (s.intvec[n], s)
  | .tmodulus k => (s.timers[k].modulus, s)
  | .tvalue k => (s.timers[k].value, s)
  | .tctl k => s.withFreeBits Config.tctlMask s.timers[k].ctl
  | .modid => (Config.modid, s)
  | .bictl => s.withFreeBits Config.bictlMask s.bictl
  | .binstLow => (s.binstLow, s)
  | .binstHigh => (s.binstHigh, s)
  | .bdctl => s.withFreeBits Config.bdctlMask s.bdctl
  | .bdataALow => (s.bdataALow, s)
  | .bdataAHigh => (s.bdataAHigh, s)
  | .bdataVal => (s.bdataVal, s)
  | .bdataMask => (s.bdataMask, s)
  | .absent => (0, s)

/-- Replace timer `k`. -/
def State.setTimer (s : State) (k : Fin 4) (f : Timer → Timer) : State :=
  { s with timers := s.timers.set k (f s.timers[k]) }

/-- A write to a register that the core and the PI masters may both write (R52): set bits of undefined fields are
ignored (U28). The registers that are read-only for the core are unchanged: the value is discarded (R51). A write of a
lock address or size leaves the locked elements as they are, with locking enabled too (log 23). -/
def State.writeMmioReg (s : State) (r : MmioReg) (v : Word) : Res State :=
  match r with
  | .memEvents => .ok { s with memEvents := v &&& Config.memEventsMask }
  | .dcLockCtl => s.setDcLock v
  | .dcLockAddr => .ok { s with dcLockAddr := v &&& ~~~0x3F }
  | .dcLockSize => .ok { s with dcLockSize := v &&& ~~~0x3F }
  | .icLockCtl => s.setIcLock v
  | .icLockAddr => .ok { s with icLockAddr := v &&& ~~~0x3F }
  | .icLockSize => .ok { s with icLockSize := v &&& ~~~0x3F }
  | .sem => .ok { s with sem := Config.semWrite s.sem (v.extractLsb' 0 12) }
  | .excvec => .ok { s with excvec := v }
  | .isetting k => .ok { s with isetting := s.isetting.set k v }
  | .ipending => .ok { s with pend := s.pend ||| (v &&& s.edgeSources) }
  | .iclear => .ok { s with pend := s.pend &&& ~~~(v &&& s.edgeSources) }
  | .imask => .ok { s with imask := v }
  | .intvec n => .ok { s with intvec := s.intvec.set n v }
  | .tmodulus k => .ok (s.setTimer k fun t => { t with modulus := v })
  | .tvalue k => .ok (s.setTimer k fun t => { t with value := v })
  | .tctl k => .ok (s.setTimer k fun t => { t with ctl := v &&& Config.tctlMask })
  | .bictl => .ok { s with bictl := v &&& Config.bictlMask }
  | .binstLow => .ok { s with binstLow := v }
  | .binstHigh => .ok { s with binstHigh := v }
  | .bdctl => .ok { s with bdctl := v &&& Config.bdctlMask }
  | .bdataALow => .ok { s with bdataALow := v }
  | .bdataAHigh => .ok { s with bdataAHigh := v }
  | .bdataVal => .ok { s with bdataVal := v }
  | .bdataMask => .ok { s with bdataMask := v }
  | .dcParams | .icParams | .ctl | .dramLo | .dramHi | .dramClimit | .apert1Lo | .apert1Hi | .startAddr | .pc
  | .powerDown | .modid | .absent => .ok s

/-- A store of the core to POWER_DOWN (R76, R660): the core halts after a free number of further instructions (U23). -/
def State.requestPowerDown (s : State) : State :=
  match s.sleepIn with
  | some _ => s
  | none => { s.drawn with sleepIn := some (Config.freeNat s.freeCount) }

/-- Record a PI-bus transaction of the core (R130). -/
def State.piTransaction (s : State) (op : PiOp) (addr data : Word) : State :=
  { s with piLog := ⟨op, addr, data⟩ :: s.piLog }

/-- A 32-bit PI-bus read (R129, R130): the reply comes from outside the core and is a free value (U27, log 28). -/
def State.piReadWord (s : State) (addr : Word) : Word × State :=
  let d := s.drawWord
  (d.1, d.2.piTransaction .readWdu addr d.1)

/-- A load from the instruction cache tag area (R163): tag and valid bit, or, with address bit 15, the LRU bits, whatever
the tag_i_mux field then holds (log 40); an element or a set that does not exist, and the tag of an invalid element,
read as free bits. Refused in the instruction of an iclr and the next (U18). -/
def State.readTagArea (s : State) (off : BitVec 21) : Res (Word × State) :=
  if s.issue.iclr || s.iclrPrev then .error .tagReadAfterIclr
  else
    let k := (off.extractLsb' 2 9).toNat
    let e := (off.extractLsb' 11 4).toNat
    let c := s.icache[Fin.ofNat 64 k]
    let l := c.lines[Fin.ofNat 8 e]
    if 63 < k then .ok s.drawWord
    else if off.getLsbD 15 then .ok (c.lru.image.setWidth 32, s)
    else if 7 < e then .ok s.drawWord
    else if l.valid then .ok ((0 : BitVec 11) ++ (1 : BitVec 1) ++ l.tag, s)
    else .ok ((0 : BitVec 12) ++ (Config.freeWord s.freeCount).extractLsb' 0 20, s.drawn)

/-- A 32-bit load of the core from the MMIO aperture (R125, R126). -/
def State.mmioLoad (s : State) (a : Word) : Res (Word × State) :=
  let off := a.extractLsb' 0 21
  match mmioArea off.toNat with
  | .tags => s.readTagArea off
  | .core => .ok (s.readMmioReg (mmioReg off.toNat))
  | .bus => .ok (s.piReadWord a)

/-- A 32-bit store of the core to the MMIO aperture (R125, R126): the tag area is read-only (R163). -/
def State.mmioStore (s : State) (a v : Word) : Res State :=
  let off := a.extractLsb' 0 21
  match mmioArea off.toNat with
  | .tags => .ok s
  | .core =>
    match mmioReg off.toNat with
    | .powerDown => .ok s.requestPowerDown
    | r => s.writeMmioReg r v
  | .bus => .ok (s.piTransaction .writeWdu a v)

end Sys2Proof.Machine
end

