-- ==== Sys2Proof/Machine/Access.lean ====
section
/-! DEFINITION. The read and write primitives of loads and stores, what two accesses of one instruction do to each
other, and the data breakpoints (spec/20_memory.md R110, R111, R129, R130, R134 to R136; spec/40_load_store.md R262,
R263; spec/60_exceptions.md R651). -/
namespace Sys2Proof.Machine

/-- The bytes of a PI word as the core orders them: byte `i` of the access at `a` (R129). -/
def apertureByte (little : Bool) (w : Word) (a : Word) (i : Nat) : Byte :=
  byteAt w (bytePos little .b4 ((a &&& 3).toNat + i))

/-- MemRead (R110) at the aligned address `a`: the value, zero-extended, and the state after the access. A narrow load from
the MMIO aperture reads a wholly free word (U6), from the instruction cache tag area in the instruction of an iclr or the
next, too, where U18 has a load refused: the model refuses the 32-bit loads of R163 alone there (log 26). -/
def State.memRead (s : State) (n : Width) (a : Word) : Res (Word × State) :=
  match s.region a with
  | .none => .ok (0, s)
  | .mmio =>
    match n with
    | .b4 => s.mmioLoad a
    | _ => .ok s.drawWord
  | .dramCached =>
    let p := s.dAccess a 4
    .ok (compose (bsx s.pcsw) n fun i => p.2.lineByte (a + BitVec.ofNat 32 i) p.1, p.2)
  | .dramUncached => .ok (compose (bsx s.pcsw) n fun i => s.mem.read (a + BitVec.ofNat 32 i).toNat, s)
  | .apert1 =>
    let p := s.piReadWord (a &&& ~~~3)
    .ok (compose (bsx s.pcsw) n (apertureByte (bsx s.pcsw) p.1 a), p.2)

/-- The PI opcode of a store (R130): by width and low address bits. -/
def piStoreOp (n : Width) (a : Word) : PiOp :=
  match n with
  | .b4 => .writeWdu
  | .b2 => if a.getLsbD 1 then .writeHw1 else .writeHw0
  | .b1 =>
    match (a &&& 3).toNat with
    | 0 => .writeBy0
    | 1 => .writeBy1
    | 2 => .writeBy2
    | _ => .writeBy3

/-- MemWrite (R111) at the aligned address `a` of the low `8 N` bits of `v`. The wires above them in a 16- or 8-bit write on
the PI bus, which Table 0-3 prints as x (R130), are recorded as zeros (log 28). -/
def State.memWrite (s : State) (n : Width) (a v : Word) : Res State :=
  match s.region a with
  | .none => .ok s
  | .mmio =>
    match n with
    | .b4 => s.mmioStore a v
    | _ => .error .narrowMmioStore
  | .dramCached =>
    let p := s.dAccess a 5
    .ok (p.2.setLineBytes a p.1 (splitBytes (bsx s.pcsw) n v))
  | .dramUncached => .ok { s with mem := s.mem.writeList a (splitBytes (bsx s.pcsw) n v) }
  | .apert1 => .ok (s.piTransaction (piStoreOp n a) (a &&& ~~~3) (lowBytes n v))

/-! ### Two accesses of one instruction (R134, R135, U7) -/

/-- The access touches the byte at `a`; one outside all apertures touches nothing. -/
def Access.touches (x : Access) (a : Word) : Bool := x.mapped && decide ((a - x.addr).toNat < x.width.bytes)

/-- One of the accesses touches the byte at `a`. -/
def touched (xs : List Access) (a : Word) : Bool := xs.any fun x => x.touches a

/-- The value of an `n`-byte access at `a` with every byte that one of `xs` touches replaced by a free byte. -/
def mixFree (little : Bool) (n : Width) (a v : Word) (xs : List Access) (c : Nat) : Word :=
  (List.range n.bytes).foldl
    (fun w i => if touched xs (a + BitVec.ofNat 32 i) then setByte w (bytePos little n i) (Config.freeByte (64 * c + i))
      else w) v

/-- A byte of the `n`-byte access at `a` is touched by one of `xs`. -/
def overlaps (n : Width) (a : Word) (xs : List Access) : Bool :=
  (List.range n.bytes).any fun i => touched xs (a + BitVec.ofNat 32 i)

/-- The stores of this instruction so far. -/
def IssueLog.stores (l : IssueLog) : List Access := l.accesses.filter fun x => x.store

/-- The value that a load of `n` bytes at `a` delivers from the raw value (R262): extended, but any word at all for a
narrow load from the MMIO aperture (U6), where it is free. -/
def State.loadValue (s : State) (n : Width) (signed : Bool) (a raw : Word) : Word :=
  if s.region a = .mmio then raw else extend n signed raw

/-- The bytes that the store `y` shares with an earlier load `x` of the same instruction make the load's result free in
those bytes (R134 case 2): its pending result is rewritten, and so is the value a data breakpoint compares. -/
def State.spoilLoad (s : State) (y x : Access) : State :=
  if !x.store && overlaps x.width x.addr [y] then
    let raw := mixFree (bsx s.pcsw) x.width x.addr x.raw [y] s.freeCount
    let v := s.loadValue x.width x.signed x.addr raw
    { s.drawn with
      results := s.results.map fun r =>
        if r.dest = x.dest ∧ r.left = FuncUnit.dmem.latency then { r with value := v } else r
      issue := { s.issue with
        accesses := s.issue.accesses.map fun z => if z = x then { x with raw := raw, data := v } else z } }
  else s

/-- A memory operation on MMIO, Aperture1 or non-cacheable DRAM (R136). -/
def Region.special : Region → Bool
  | .mmio | .apert1 | .dramUncached => true
  | .dramCached | .none => false

/-- Record an access of this instruction. -/
def State.logAccess (s : State) (x : Access) : State :=
  { s with issue := { s.issue with accesses := x :: s.issue.accesses } }

/-! ### Data breakpoints (R651, D22, C12) -/

/-- The DC field of BDCTL (R69). -/
def State.bdDc (s : State) : BitVec 2 := s.bdctl.extractLsb' Config.bdctlDcLow 2

/-- The address comparison (R651): the outside test includes the bounds, as printed (C12). -/
def State.bdAddrMatch (s : State) (a : Word) : Bool :=
  if s.bdctl.getLsbD Config.bdctlDacBit then decide (a ≤ s.bdataALow) || decide (s.bdataAHigh ≤ a)
  else decide (s.bdataALow ≤ a) && decide (a ≤ s.bdataAHigh)

/-- The value comparison (R651); with a zero mask its outcome is a free choice (U22). -/
def State.bdValueMatch (s : State) (data : Word) : Bool :=
  if s.bdataMask = 0 then Config.freeBool s.freeCount
  else if s.bdctl.getLsbD Config.bdctlDvcBit then decide (data &&& s.bdataMask ≠ s.bdataVal &&& s.bdataMask)
  else decide (data &&& s.bdataMask = s.bdataVal &&& s.bdataMask)

/-- The data breakpoint logic observes the access `x` (R651, D22). -/
def State.observe (s : State) (x : Access) : State :=
  let on := if x.store then s.bdctl.getLsbD Config.bdctlBsBit else s.bdctl.getLsbD Config.bdctlBlBit
  if !on || decide (s.bdDc = 0) then s
  else
    let event := if s.bdDc = 1 then s.bdAddrMatch x.daddr
      else if s.bdDc = 2 then s.bdValueMatch x.data
      else s.bdAddrMatch x.daddr && s.bdValueMatch x.data
    let s := if decide (s.bdDc ≠ 1) && decide (s.bdataMask = 0) then s.drawn else s
    if event then { s with issue := { s.issue with dataBreaks := s.issue.dataBreaks + 1 } } else s

/-- The data breakpoint logic observes all loads and stores of the instruction, the earliest first, when all of them are
made: each with its final value, and compared with the registers as the instruction leaves them (log 45). -/
def State.observed (s : State) : State := s.issue.accesses.foldr (fun x t => t.observe x) s

/-! ### Loads and stores (R262, R263) -/

/-- A load of `n` bytes at `a` into `d` (R262): MemRead at the forced address; the extended value reaches `d` with the
latency of the unit. A byte that a store of the same instruction touches is a free value (U7). -/
def performLoad (n : Width) (signed : Bool) (a : Word) (d : Reg) (s : State) : Out :=
  let ea := align n a
  match s.memRead n ea with
  | .error e => .refused e
  | .ok (raw, s1) =>
    let mixed := overlaps n ea s1.issue.stores
    let raw' := if mixed then mixFree (bsx s1.pcsw) n ea raw s1.issue.stores s1.freeCount else raw
    let s2 := if mixed then s1.drawn else s1
    let v := s.loadValue n signed ea raw'
    let x : Access := ⟨ea, n, false, decide (s.region ea ≠ .none), (s.region ea).special, d, signed, raw', a, v⟩
    .next ((s2.logAccess x).issueResult d v FuncUnit.dmem.latency)

/-- A store of the low `8 N` bits of `v` at `a` (R263): a misaligned address sets MSE (R103, R104), the bytes go to the
forced address. A byte that an earlier store of the same instruction touches gets a free value, and one that an earlier
load touches makes that load's byte free (U7). -/
def performStore (n : Width) (a v : Word) (s : State) : Out :=
  let ea := align n a
  let mixed := overlaps n ea s.issue.stores
  let v' := if mixed then mixFree (bsx s.pcsw) n ea v s.issue.stores s.freeCount else v
  let s1 := if mixed then s.drawn else s
  let y : Access :=
    ⟨ea, n, true, decide (s.region ea ≠ .none), (s.region ea).special, 0, false, lowBytes n v, a, lowBytes n v⟩
  match s1.memWrite n ea v' with
  | .error e => .refused e
  | .ok s2 =>
    let s3 := s.issue.accesses.foldl (fun t x => t.spoilLoad y x) s2
    .next ((s3.logAccess y).issueFlags (if aligned n a then 0 else flagMSE) 1)

/-- A guarded load (R262, R264). -/
def issueLoad (n : Width) (signed : Bool) (g : Reg) (a : Word) (d : Reg) (s : State) : Out :=
  guarded g s (performLoad n signed a d)

/-- A guarded store (R263, R264). -/
def issueStore (n : Width) (g : Reg) (a v : Word) (s : State) : Out :=
  guarded g s (performStore n a v)

end Sys2Proof.Machine
end

