-- ==== Sys2Proof/Machine/LoadStore.lean ====
section
/-! DEFINITION. Loads, stores, allocate and prefetch (spec/40_load_store.md R220 to R269).
One meaning per operation. -/
namespace Sys2Proof.Machine

/-- alloc (R220). -/
def execAlloc (g s1 : Reg) (s : State) : Out := guarded g s fun s => .next (s.allocBlock (s.reg s1))

/-- allocd (R221). -/
def execAllocd (g : Reg) (m : Int) (s1 : Reg) (s : State) : Out :=
  guarded g s fun s => .next (s.allocBlock (s.addrDisp s1 m))

/-- allocr (R222). -/
def execAllocr (g s1 s2 : Reg) (s : State) : Out := guarded g s fun s => .next (s.allocBlock (s.addrIndex s1 s2 1))

/-- allocx (R223). -/
def execAllocx (g s1 s2 : Reg) (s : State) : Out := guarded g s fun s => .next (s.allocBlock (s.addrIndex s1 s2 4))

/-- h_st8d (R224). -/
def execHSt8d (g : Reg) (m : Int) (s1 s2 : Reg) (s : State) : Out := issueStore .b1 g (s.addrDisp s2 m) (s.reg s1) s

/-- h_st16d (R225). -/
def execHSt16d (g : Reg) (m : Int) (s1 s2 : Reg) (s : State) : Out := issueStore .b2 g (s.addrDisp s2 m) (s.reg s1) s

/-- h_st32d (R226). -/
def execHSt32d (g : Reg) (m : Int) (s1 s2 : Reg) (s : State) : Out := issueStore .b4 g (s.addrDisp s2 m) (s.reg s1) s

/-- ild16 (R227). -/
def execIld16 (g s1 d : Reg) (s : State) : Out := issueLoad .b2 true g (s.reg s1) d s

/-- ild16d (R228). -/
def execIld16d (g : Reg) (m : Int) (s1 d : Reg) (s : State) : Out := issueLoad .b2 true g (s.addrDisp s1 m) d s

/-- ild16r (R229). -/
def execIld16r (g s1 s2 d : Reg) (s : State) : Out := issueLoad .b2 true g (s.addrIndex s1 s2 1) d s

/-- ild16x (R230). -/
def execIld16x (g s1 s2 d : Reg) (s : State) : Out := issueLoad .b2 true g (s.addrIndex s1 s2 2) d s

/-- ild8 (R231). -/
def execIld8 (g s1 d : Reg) (s : State) : Out := issueLoad .b1 true g (s.reg s1) d s

/-- ild8d (R232). -/
def execIld8d (g : Reg) (m : Int) (s1 d : Reg) (s : State) : Out := issueLoad .b1 true g (s.addrDisp s1 m) d s

/-- ild8r (R233). -/
def execIld8r (g s1 s2 d : Reg) (s : State) : Out := issueLoad .b1 true g (s.addrIndex s1 s2 1) d s

/-- ld32 (R234). -/
def execLd32 (g s1 d : Reg) (s : State) : Out := issueLoad .b4 false g (s.reg s1) d s

/-- ld32d (R235). -/
def execLd32d (g : Reg) (m : Int) (s1 d : Reg) (s : State) : Out := issueLoad .b4 false g (s.addrDisp s1 m) d s

/-- ld32r (R236). -/
def execLd32r (g s1 s2 d : Reg) (s : State) : Out := issueLoad .b4 false g (s.addrIndex s1 s2 1) d s

/-- ld32x (R237). -/
def execLd32x (g s1 s2 d : Reg) (s : State) : Out := issueLoad .b4 false g (s.addrIndex s1 s2 4) d s

/-- pref (R240). -/
def execPref (g s1 : Reg) (s : State) : Out := guarded g s fun s => .next (s.prefetchBlock (s.reg s1))

/-- pref16x (R241). -/
def execPref16x (g s1 s2 : Reg) (s : State) : Out := guarded g s fun s => .next (s.prefetchBlock (s.addrIndex s1 s2 2))

/-- pref32x (R242). -/
def execPref32x (g s1 s2 : Reg) (s : State) : Out := guarded g s fun s => .next (s.prefetchBlock (s.addrIndex s1 s2 4))

/-- prefd (R243). -/
def execPrefd (g : Reg) (m : Int) (s1 : Reg) (s : State) : Out :=
  guarded g s fun s => .next (s.prefetchBlock (s.addrDisp s1 m))

/-- prefr (R244). -/
def execPrefr (g s1 s2 : Reg) (s : State) : Out := guarded g s fun s => .next (s.prefetchBlock (s.addrIndex s1 s2 1))

/-- st16 (R245). -/
def execSt16 (g s1 s2 : Reg) (s : State) : Out := issueStore .b2 g (s.reg s1) (s.reg s2) s

/-- st16d (R246). -/
def execSt16d (g : Reg) (m : Int) (s1 s2 : Reg) (s : State) : Out := issueStore .b2 g (s.addrDisp s1 m) (s.reg s2) s

/-- st32 (R247). -/
def execSt32 (g s1 s2 : Reg) (s : State) : Out := issueStore .b4 g (s.reg s1) (s.reg s2) s

/-- st32d (R248). -/
def execSt32d (g : Reg) (m : Int) (s1 s2 : Reg) (s : State) : Out := issueStore .b4 g (s.addrDisp s1 m) (s.reg s2) s

/-- st8 (R249). -/
def execSt8 (g s1 s2 : Reg) (s : State) : Out := issueStore .b1 g (s.reg s1) (s.reg s2) s

/-- st8d (R250). -/
def execSt8d (g : Reg) (m : Int) (s1 s2 : Reg) (s : State) : Out := issueStore .b1 g (s.addrDisp s1 m) (s.reg s2) s

/-- uld16 (R251). -/
def execUld16 (g s1 d : Reg) (s : State) : Out := issueLoad .b2 false g (s.reg s1) d s

/-- uld16d (R252). -/
def execUld16d (g : Reg) (m : Int) (s1 d : Reg) (s : State) : Out := issueLoad .b2 false g (s.addrDisp s1 m) d s

/-- uld16r (R253). -/
def execUld16r (g s1 s2 d : Reg) (s : State) : Out := issueLoad .b2 false g (s.addrIndex s1 s2 1) d s

/-- uld16x (R254). -/
def execUld16x (g s1 s2 d : Reg) (s : State) : Out := issueLoad .b2 false g (s.addrIndex s1 s2 2) d s

/-- uld8 (R255). -/
def execUld8 (g s1 d : Reg) (s : State) : Out := issueLoad .b1 false g (s.reg s1) d s

/-- uld8d (R256). -/
def execUld8d (g : Reg) (m : Int) (s1 d : Reg) (s : State) : Out := issueLoad .b1 false g (s.addrDisp s1 m) d s

/-- uld8r (R257). -/
def execUld8r (g s1 s2 d : Reg) (s : State) : Out := issueLoad .b1 false g (s.addrIndex s1 s2 1) d s

end Sys2Proof.Machine
end

