-- ==== Sys2Proof/Machine/Shift.lean ====
section
/-! DEFINITION. Shifts, rotates, funnel shifts and bitwise logic (spec/41_shift_logical.md R280 to R300).
One meaning per operation. -/
namespace Sys2Proof.Machine

/-- asl (R283). -/
def execAsl (g s1 s2 d : Reg) (s : State) : Out := issueValue .shifter g d (s.reg s1 <<< shiftAmount (s.reg s2)) s

/-- asli (R284). -/
def execAsli (g : Reg) (m : Int) (s1 d : Reg) (s : State) : Out := issueValue .shifter g d (s.reg s1 <<< m.toNat) s

/-- asr (R285). -/
def execAsr (g s1 s2 d : Reg) (s : State) : Out :=
  issueValue .shifter g d ((s.reg s1).sshiftRight (shiftAmount (s.reg s2))) s

/-- asri (R286). -/
def execAsri (g : Reg) (m : Int) (s1 d : Reg) (s : State) : Out :=
  issueValue .shifter g d ((s.reg s1).sshiftRight m.toNat) s

/-- funshift1 (R287). -/
def execFunshift1 (g s1 s2 d : Reg) (s : State) : Out :=
  issueValue .shifter g d ((s.reg s1).extractLsb' 0 24 ++ (s.reg s2).extractLsb' 24 8) s

/-- funshift2 (R288). -/
def execFunshift2 (g s1 s2 d : Reg) (s : State) : Out :=
  issueValue .shifter g d ((s.reg s1).extractLsb' 0 16 ++ (s.reg s2).extractLsb' 16 16) s

/-- funshift3 (R289). -/
def execFunshift3 (g s1 s2 d : Reg) (s : State) : Out :=
  issueValue .shifter g d ((s.reg s1).extractLsb' 0 8 ++ (s.reg s2).extractLsb' 8 24) s

/-- lsl (R290). -/
def execLsl (g s1 s2 d : Reg) (s : State) : Out := issueValue .shifter g d (s.reg s1 <<< shiftAmount (s.reg s2)) s

/-- lsli (R291). -/
def execLsli (g : Reg) (m : Int) (s1 d : Reg) (s : State) : Out := issueValue .shifter g d (s.reg s1 <<< m.toNat) s

/-- lsr (R292). -/
def execLsr (g s1 s2 d : Reg) (s : State) : Out := issueValue .shifter g d (s.reg s1 >>> shiftAmount (s.reg s2)) s

/-- lsri (R293). -/
def execLsri (g : Reg) (m : Int) (s1 d : Reg) (s : State) : Out := issueValue .shifter g d (s.reg s1 >>> m.toNat) s

/-- rol (R294). -/
def execRol (g s1 s2 d : Reg) (s : State) : Out :=
  issueValue .shifter g d ((s.reg s1).rotateLeft (rotateAmount (s.reg s2))) s

/-- roli (R295). -/
def execRoli (g : Reg) (m : Int) (s1 d : Reg) (s : State) : Out :=
  issueValue .shifter g d ((s.reg s1).rotateLeft m.toNat) s

/-- bitand (R296). -/
def execBitand (g s1 s2 d : Reg) (s : State) : Out := issueValue .alu g d (s.reg s1 &&& s.reg s2) s

/-- bitandinv (R297). -/
def execBitandinv (g s1 s2 d : Reg) (s : State) : Out := issueValue .alu g d (s.reg s1 &&& ~~~s.reg s2) s

/-- bitinv (R298). -/
def execBitinv (g s1 d : Reg) (s : State) : Out := issueValue .alu g d (~~~s.reg s1) s

/-- bitor (R299). -/
def execBitor (g s1 s2 d : Reg) (s : State) : Out := issueValue .alu g d (s.reg s1 ||| s.reg s2) s

/-- bitxor (R300). -/
def execBitxor (g s1 s2 d : Reg) (s : State) : Out := issueValue .alu g d (s.reg s1 ^^^ s.reg s2) s

end Sys2Proof.Machine
end

