-- ==== Sys2Proof/Machine/Dispatch.lean ====
section
/-! DEFINITION. The dispatch of every operation to its meaning. -/
namespace Sys2Proof.Machine

def exec (i : Instr) (s : State) : Host.Outcome State Fault Refusal :=
  match i with
  | .alloc g s1 => Sys2Proof.Machine.execAlloc g s1 s
  | .allocd g m s1 => Sys2Proof.Machine.execAllocd g m s1 s
  | .allocr g s1 s2 => Sys2Proof.Machine.execAllocr g s1 s2 s
  | .allocx g s1 s2 => Sys2Proof.Machine.execAllocx g s1 s2 s
  | .asl g s1 s2 d => Sys2Proof.Machine.execAsl g s1 s2 d s
  | .asli g m s1 d => Sys2Proof.Machine.execAsli g m s1 d s
  | .asr g s1 s2 d => Sys2Proof.Machine.execAsr g s1 s2 d s
  | .asri g m s1 d => Sys2Proof.Machine.execAsri g m s1 d s
  | .bitand g s1 s2 d => Sys2Proof.Machine.execBitand g s1 s2 d s
  | .bitandinv g s1 s2 d => Sys2Proof.Machine.execBitandinv g s1 s2 d s
  | .bitinv g s1 d => Sys2Proof.Machine.execBitinv g s1 d s
  | .bitor g s1 s2 d => Sys2Proof.Machine.execBitor g s1 s2 d s
  | .bitxor g s1 s2 d => Sys2Proof.Machine.execBitxor g s1 s2 d s
  | .borrow g s1 s2 d => Sys2Proof.Machine.execBorrow g s1 s2 d s
  | .carry g s1 s2 d => Sys2Proof.Machine.execCarry g s1 s2 d s
  | .curcycles g d => Sys2Proof.Machine.execCurcycles g d s
  | .cycles g d => Sys2Proof.Machine.execCycles g d s
  | .dcb g m s1 => Sys2Proof.Machine.execDcb g m s1 s
  | .dinvalid g m s1 => Sys2Proof.Machine.execDinvalid g m s1 s
  | .dspiabs g s1 d => Sys2Proof.Machine.execDspiabs g s1 d s
  | .dspiadd g s1 s2 d => Sys2Proof.Machine.execDspiadd g s1 s2 d s
  | .dspidualabs g s1 d => Sys2Proof.Machine.execDspidualabs g s1 d s
  | .dspidualadd g s1 s2 d => Sys2Proof.Machine.execDspidualadd g s1 s2 d s
  | .dspidualmul g s1 s2 d => Sys2Proof.Machine.execDspidualmul g s1 s2 d s
  | .dspidualsub g s1 s2 d => Sys2Proof.Machine.execDspidualsub g s1 s2 d s
  | .dspimul g s1 s2 d => Sys2Proof.Machine.execDspimul g s1 s2 d s
  | .dspisub g s1 s2 d => Sys2Proof.Machine.execDspisub g s1 s2 d s
  | .dspuadd g s1 s2 d => Sys2Proof.Machine.execDspuadd g s1 s2 d s
  | .dspumul g s1 s2 d => Sys2Proof.Machine.execDspumul g s1 s2 d s
  | .dspuquadaddui g s1 s2 d => Sys2Proof.Machine.execDspuquadaddui g s1 s2 d s
  | .dspusub g s1 s2 d => Sys2Proof.Machine.execDspusub g s1 s2 d s
  | .dualasr g s1 s2 d => Sys2Proof.Machine.execDualasr g s1 s2 d s
  | .dualiclipi g s1 s2 d => Sys2Proof.Machine.execDualiclipi g s1 s2 d s
  | .dualuclipi g s1 s2 d => Sys2Proof.Machine.execDualuclipi g s1 s2 d s
  | .fabsval g s1 d => Sys2Proof.Machine.execFabsval g s1 d s
  | .fabsvalflags g s1 d => Sys2Proof.Machine.execFabsvalflags g s1 d s
  | .fadd g s1 s2 d => Sys2Proof.Machine.execFadd g s1 s2 d s
  | .faddflags g s1 s2 d => Sys2Proof.Machine.execFaddflags g s1 s2 d s
  | .fdiv g s1 s2 d => Sys2Proof.Machine.execFdiv g s1 s2 d s
  | .fdivflags g s1 s2 d => Sys2Proof.Machine.execFdivflags g s1 s2 d s
  | .feql g s1 s2 d => Sys2Proof.Machine.execFeql g s1 s2 d s
  | .feqlflags g s1 s2 d => Sys2Proof.Machine.execFeqlflags g s1 s2 d s
  | .fgeq g s1 s2 d => Sys2Proof.Machine.execFgeq g s1 s2 d s
  | .fgeqflags g s1 s2 d => Sys2Proof.Machine.execFgeqflags g s1 s2 d s
  | .fgtr g s1 s2 d => Sys2Proof.Machine.execFgtr g s1 s2 d s
  | .fgtrflags g s1 s2 d => Sys2Proof.Machine.execFgtrflags g s1 s2 d s
  | .fleq g s1 s2 d => Sys2Proof.Machine.execFleq g s1 s2 d s
  | .fleqflags g s1 s2 d => Sys2Proof.Machine.execFleqflags g s1 s2 d s
  | .fles g s1 s2 d => Sys2Proof.Machine.execFles g s1 s2 d s
  | .flesflags g s1 s2 d => Sys2Proof.Machine.execFlesflags g s1 s2 d s
  | .fmul g s1 s2 d => Sys2Proof.Machine.execFmul g s1 s2 d s
  | .fmulflags g s1 s2 d => Sys2Proof.Machine.execFmulflags g s1 s2 d s
  | .fneq g s1 s2 d => Sys2Proof.Machine.execFneq g s1 s2 d s
  | .fneqflags g s1 s2 d => Sys2Proof.Machine.execFneqflags g s1 s2 d s
  | .fsign g s1 d => Sys2Proof.Machine.execFsign g s1 d s
  | .fsignflags g s1 d => Sys2Proof.Machine.execFsignflags g s1 d s
  | .fsqrt g s1 d => Sys2Proof.Machine.execFsqrt g s1 d s
  | .fsqrtflags g s1 d => Sys2Proof.Machine.execFsqrtflags g s1 d s
  | .fsub g s1 s2 d => Sys2Proof.Machine.execFsub g s1 s2 d s
  | .fsubflags g s1 s2 d => Sys2Proof.Machine.execFsubflags g s1 s2 d s
  | .funshift1 g s1 s2 d => Sys2Proof.Machine.execFunshift1 g s1 s2 d s
  | .funshift2 g s1 s2 d => Sys2Proof.Machine.execFunshift2 g s1 s2 d s
  | .funshift3 g s1 s2 d => Sys2Proof.Machine.execFunshift3 g s1 s2 d s
  | .hDspiabs g s1 s2 d => Sys2Proof.Machine.execHDspiabs g s1 s2 d s
  | .hDspidualabs g s1 s2 d => Sys2Proof.Machine.execHDspidualabs g s1 s2 d s
  | .hIabs g s1 s2 d => Sys2Proof.Machine.execHIabs g s1 s2 d s
  | .hSt16d g m s1 s2 => Sys2Proof.Machine.execHSt16d g m s1 s2 s
  | .hSt32d g m s1 s2 => Sys2Proof.Machine.execHSt32d g m s1 s2 s
  | .hSt8d g m s1 s2 => Sys2Proof.Machine.execHSt8d g m s1 s2 s
  | .hicycles g d => Sys2Proof.Machine.execHicycles g d s
  | .iabs g s1 d => Sys2Proof.Machine.execIabs g s1 d s
  | .iadd g s1 s2 d => Sys2Proof.Machine.execIadd g s1 s2 d s
  | .iaddi g m s1 d => Sys2Proof.Machine.execIaddi g m s1 d s
  | .iavgonep g s1 s2 d => Sys2Proof.Machine.execIavgonep g s1 s2 d s
  | .ibytesel g s1 s2 d => Sys2Proof.Machine.execIbytesel g s1 s2 d s
  | .iclipi g s1 s2 d => Sys2Proof.Machine.execIclipi g s1 s2 d s
  | .iclr g => Sys2Proof.Machine.execIclr g s
  | .ident g s1 d => Sys2Proof.Machine.execIdent g s1 d s
  | .ieql g s1 s2 d => Sys2Proof.Machine.execIeql g s1 s2 d s
  | .ieqli g m s1 d => Sys2Proof.Machine.execIeqli g m s1 d s
  | .ifir16 g s1 s2 d => Sys2Proof.Machine.execIfir16 g s1 s2 d s
  | .ifir8ii g s1 s2 d => Sys2Proof.Machine.execIfir8ii g s1 s2 d s
  | .ifir8ui g s1 s2 d => Sys2Proof.Machine.execIfir8ui g s1 s2 d s
  | .ifixieee g s1 d => Sys2Proof.Machine.execIfixieee g s1 d s
  | .ifixieeeflags g s1 d => Sys2Proof.Machine.execIfixieeeflags g s1 d s
  | .ifixrz g s1 d => Sys2Proof.Machine.execIfixrz g s1 d s
  | .ifixrzflags g s1 d => Sys2Proof.Machine.execIfixrzflags g s1 d s
  | .iflip g s1 s2 d => Sys2Proof.Machine.execIflip g s1 s2 d s
  | .ifloat g s1 d => Sys2Proof.Machine.execIfloat g s1 d s
  | .ifloatflags g s1 d => Sys2Proof.Machine.execIfloatflags g s1 d s
  | .ifloatrz g s1 d => Sys2Proof.Machine.execIfloatrz g s1 d s
  | .ifloatrzflags g s1 d => Sys2Proof.Machine.execIfloatrzflags g s1 d s
  | .igeq g s1 s2 d => Sys2Proof.Machine.execIgeq g s1 s2 d s
  | .igeqi g m s1 d => Sys2Proof.Machine.execIgeqi g m s1 d s
  | .igtr g s1 s2 d => Sys2Proof.Machine.execIgtr g s1 s2 d s
  | .igtri g m s1 d => Sys2Proof.Machine.execIgtri g m s1 d s
  | .iimm m d => Sys2Proof.Machine.execIimm m d s
  | .ijmpf g s1 s2 => Sys2Proof.Machine.execIjmpf g s1 s2 s
  | .ijmpi g a => Sys2Proof.Machine.execIjmpi g a s
  | .ijmpt g s1 s2 => Sys2Proof.Machine.execIjmpt g s1 s2 s
  | .ild16 g s1 d => Sys2Proof.Machine.execIld16 g s1 d s
  | .ild16d g m s1 d => Sys2Proof.Machine.execIld16d g m s1 d s
  | .ild16r g s1 s2 d => Sys2Proof.Machine.execIld16r g s1 s2 d s
  | .ild16x g s1 s2 d => Sys2Proof.Machine.execIld16x g s1 s2 d s
  | .ild8 g s1 d => Sys2Proof.Machine.execIld8 g s1 d s
  | .ild8d g m s1 d => Sys2Proof.Machine.execIld8d g m s1 d s
  | .ild8r g s1 s2 d => Sys2Proof.Machine.execIld8r g s1 s2 d s
  | .ileq g s1 s2 d => Sys2Proof.Machine.execIleq g s1 s2 d s
  | .ileqi g m s1 d => Sys2Proof.Machine.execIleqi g m s1 d s
  | .iles g s1 s2 d => Sys2Proof.Machine.execIles g s1 s2 d s
  | .ilesi g m s1 d => Sys2Proof.Machine.execIlesi g m s1 d s
  | .imax g s1 s2 d => Sys2Proof.Machine.execImax g s1 s2 d s
  | .imin g s1 s2 d => Sys2Proof.Machine.execImin g s1 s2 d s
  | .imul g s1 s2 d => Sys2Proof.Machine.execImul g s1 s2 d s
  | .imulm g s1 s2 d => Sys2Proof.Machine.execImulm g s1 s2 d s
  | .ineg g s1 d => Sys2Proof.Machine.execIneg g s1 d s
  | .ineq g s1 s2 d => Sys2Proof.Machine.execIneq g s1 s2 d s
  | .ineqi g m s1 d => Sys2Proof.Machine.execIneqi g m s1 d s
  | .inonzero g s1 s2 d => Sys2Proof.Machine.execInonzero g s1 s2 d s
  | .isub g s1 s2 d => Sys2Proof.Machine.execIsub g s1 s2 d s
  | .isubi g m s1 d => Sys2Proof.Machine.execIsubi g m s1 d s
  | .izero g s1 s2 d => Sys2Proof.Machine.execIzero g s1 s2 d s
  | .jmpf g s1 s2 => Sys2Proof.Machine.execJmpf g s1 s2 s
  | .jmpi g a => Sys2Proof.Machine.execJmpi g a s
  | .jmpt g s1 s2 => Sys2Proof.Machine.execJmpt g s1 s2 s
  | .ld32 g s1 d => Sys2Proof.Machine.execLd32 g s1 d s
  | .ld32d g m s1 d => Sys2Proof.Machine.execLd32d g m s1 d s
  | .ld32r g s1 s2 d => Sys2Proof.Machine.execLd32r g s1 s2 d s
  | .ld32x g s1 s2 d => Sys2Proof.Machine.execLd32x g s1 s2 d s
  | .lsl g s1 s2 d => Sys2Proof.Machine.execLsl g s1 s2 d s
  | .lsli g m s1 d => Sys2Proof.Machine.execLsli g m s1 d s
  | .lsr g s1 s2 d => Sys2Proof.Machine.execLsr g s1 s2 d s
  | .lsri g m s1 d => Sys2Proof.Machine.execLsri g m s1 d s
  | .mergedual16lsb g s1 s2 d => Sys2Proof.Machine.execMergedual16lsb g s1 s2 d s
  | .mergelsb g s1 s2 d => Sys2Proof.Machine.execMergelsb g s1 s2 d s
  | .mergemsb g s1 s2 d => Sys2Proof.Machine.execMergemsb g s1 s2 d s
  | .nop => Sys2Proof.Machine.execNop s
  | .pack16lsb g s1 s2 d => Sys2Proof.Machine.execPack16lsb g s1 s2 d s
  | .pack16msb g s1 s2 d => Sys2Proof.Machine.execPack16msb g s1 s2 d s
  | .packbytes g s1 s2 d => Sys2Proof.Machine.execPackbytes g s1 s2 d s
  | .pref g s1 => Sys2Proof.Machine.execPref g s1 s
  | .pref16x g s1 s2 => Sys2Proof.Machine.execPref16x g s1 s2 s
  | .pref32x g s1 s2 => Sys2Proof.Machine.execPref32x g s1 s2 s
  | .prefd g m s1 => Sys2Proof.Machine.execPrefd g m s1 s
  | .prefr g s1 s2 => Sys2Proof.Machine.execPrefr g s1 s2 s
  | .quadavg g s1 s2 d => Sys2Proof.Machine.execQuadavg g s1 s2 d s
  | .quadumax g s1 s2 d => Sys2Proof.Machine.execQuadumax g s1 s2 d s
  | .quadumin g s1 s2 d => Sys2Proof.Machine.execQuadumin g s1 s2 d s
  | .quadumulmsb g s1 s2 d => Sys2Proof.Machine.execQuadumulmsb g s1 s2 d s
  | .rdstatus g m s1 d => Sys2Proof.Machine.execRdstatus g m s1 d s
  | .rdtag g m s1 d => Sys2Proof.Machine.execRdtag g m s1 d s
  | .readdpc g d => Sys2Proof.Machine.execReaddpc g d s
  | .readpcsw g d => Sys2Proof.Machine.execReadpcsw g d s
  | .readspc g d => Sys2Proof.Machine.execReadspc g d s
  | .rol g s1 s2 d => Sys2Proof.Machine.execRol g s1 s2 d s
  | .roli g m s1 d => Sys2Proof.Machine.execRoli g m s1 d s
  | .sex16 g s1 d => Sys2Proof.Machine.execSex16 g s1 d s
  | .sex8 g s1 d => Sys2Proof.Machine.execSex8 g s1 d s
  | .st16 g s1 s2 => Sys2Proof.Machine.execSt16 g s1 s2 s
  | .st16d g m s1 s2 => Sys2Proof.Machine.execSt16d g m s1 s2 s
  | .st32 g s1 s2 => Sys2Proof.Machine.execSt32 g s1 s2 s
  | .st32d g m s1 s2 => Sys2Proof.Machine.execSt32d g m s1 s2 s
  | .st8 g s1 s2 => Sys2Proof.Machine.execSt8 g s1 s2 s
  | .st8d g m s1 s2 => Sys2Proof.Machine.execSt8d g m s1 s2 s
  | .ubytesel g s1 s2 d => Sys2Proof.Machine.execUbytesel g s1 s2 d s
  | .uclipi g s1 s2 d => Sys2Proof.Machine.execUclipi g s1 s2 d s
  | .uclipu g s1 s2 d => Sys2Proof.Machine.execUclipu g s1 s2 d s
  | .ueql g s1 s2 d => Sys2Proof.Machine.execUeql g s1 s2 d s
  | .ueqli g m s1 d => Sys2Proof.Machine.execUeqli g m s1 d s
  | .ufir16 g s1 s2 d => Sys2Proof.Machine.execUfir16 g s1 s2 d s
  | .ufir8uu g s1 s2 d => Sys2Proof.Machine.execUfir8uu g s1 s2 d s
  | .ufixieee g s1 d => Sys2Proof.Machine.execUfixieee g s1 d s
  | .ufixieeeflags g s1 d => Sys2Proof.Machine.execUfixieeeflags g s1 d s
  | .ufixrz g s1 d => Sys2Proof.Machine.execUfixrz g s1 d s
  | .ufixrzflags g s1 d => Sys2Proof.Machine.execUfixrzflags g s1 d s
  | .ufloat g s1 d => Sys2Proof.Machine.execUfloat g s1 d s
  | .ufloatflags g s1 d => Sys2Proof.Machine.execUfloatflags g s1 d s
  | .ufloatrz g s1 d => Sys2Proof.Machine.execUfloatrz g s1 d s
  | .ufloatrzflags g s1 d => Sys2Proof.Machine.execUfloatrzflags g s1 d s
  | .ugeq g s1 s2 d => Sys2Proof.Machine.execUgeq g s1 s2 d s
  | .ugeqi g m s1 d => Sys2Proof.Machine.execUgeqi g m s1 d s
  | .ugtr g s1 s2 d => Sys2Proof.Machine.execUgtr g s1 s2 d s
  | .ugtri g m s1 d => Sys2Proof.Machine.execUgtri g m s1 d s
  | .uimm m d => Sys2Proof.Machine.execUimm m d s
  | .uld16 g s1 d => Sys2Proof.Machine.execUld16 g s1 d s
  | .uld16d g m s1 d => Sys2Proof.Machine.execUld16d g m s1 d s
  | .uld16r g s1 s2 d => Sys2Proof.Machine.execUld16r g s1 s2 d s
  | .uld16x g s1 s2 d => Sys2Proof.Machine.execUld16x g s1 s2 d s
  | .uld8 g s1 d => Sys2Proof.Machine.execUld8 g s1 d s
  | .uld8d g m s1 d => Sys2Proof.Machine.execUld8d g m s1 d s
  | .uld8r g s1 s2 d => Sys2Proof.Machine.execUld8r g s1 s2 d s
  | .uleq g s1 s2 d => Sys2Proof.Machine.execUleq g s1 s2 d s
  | .uleqi g m s1 d => Sys2Proof.Machine.execUleqi g m s1 d s
  | .ules g s1 s2 d => Sys2Proof.Machine.execUles g s1 s2 d s
  | .ulesi g m s1 d => Sys2Proof.Machine.execUlesi g m s1 d s
  | .ume8ii g s1 s2 d => Sys2Proof.Machine.execUme8ii g s1 s2 d s
  | .ume8uu g s1 s2 d => Sys2Proof.Machine.execUme8uu g s1 s2 d s
  | .umin g s1 s2 d => Sys2Proof.Machine.execUmin g s1 s2 d s
  | .umul g s1 s2 d => Sys2Proof.Machine.execUmul g s1 s2 d s
  | .umulm g s1 s2 d => Sys2Proof.Machine.execUmulm g s1 s2 d s
  | .uneq g s1 s2 d => Sys2Proof.Machine.execUneq g s1 s2 d s
  | .uneqi g m s1 d => Sys2Proof.Machine.execUneqi g m s1 d s
  | .writedpc g s1 => Sys2Proof.Machine.execWritedpc g s1 s
  | .writepcsw g s1 s2 => Sys2Proof.Machine.execWritepcsw g s1 s2 s
  | .writespc g s1 => Sys2Proof.Machine.execWritespc g s1 s
  | .zex16 g s1 d => Sys2Proof.Machine.execZex16 g s1 d s
  | .zex8 g s1 d => Sys2Proof.Machine.execZex8 g s1 d s

end Sys2Proof.Machine
end

