-- ==== Sys2Proof/Machine/Clock.lean ====
section
/-! DEFINITION. What a clock cycle does: the cycle counter, the timers, the request lines and the breakpoint and cache
events that the timers count (spec/10_state.md R49; spec/60_exceptions.md R621, R640 to R645, R650, R652). -/
namespace Sys2Proof.Machine

/-! ### The events timers count -/

/-- The instruction at `iaddr` makes an instruction breakpoint event (R650): the outside test excludes the bounds. -/
def State.instBreak (s : State) (iaddr : Word) : Bool :=
  s.bictl.getLsbD Config.bictlIcBit &&
    if s.bictl.getLsbD Config.bictlIacBit then decide (iaddr < s.binstLow) || decide (s.binstHigh < iaddr)
    else decide (s.binstLow ≤ iaddr) && decide (iaddr ≤ s.binstHigh)

/-- The kinds of cache events that the model computes: instruction cache misses, data cache read and write misses,
copybacks, prefetches that hit (R652). The other kinds come from outside (log 34). -/
def computedEvents : BitVec 16 := 0x20B2

/-- Cache event `k` is counted in this clock cycle (R652): 0 and the reserved 14 and 15 never are. -/
def State.cacheEventNow (s : State) (i : CycleInputs) (k : BitVec 4) : Bool :=
  decide (k ≠ 0) && decide (k < 14)
    && if computedEvents.getLsbD k.toNat then decide (0 < s.cacheEvents[k.toFin]) else i.cacheEvents.getLsbD k.toNat

/-- The events of the sources other than CLOCK and PRESCALE in a clock cycle (R640): source number `k` of Table 1-12
counts `events k`. Of each kind of cache event one is counted in a clock cycle (log 34). -/
def State.sourceEvents (s : State) (i : CycleInputs) (instBreak : Bool) (k : Nat) : Nat :=
  match k with
  | 3 => s.issue.dataBreaks
  | 4 => if instBreak then 1 else 0
  | 5 => if s.cacheEventNow i (s.memEvents.extractLsb' Config.event1Low 4) then 1 else 0
  | 6 => if s.cacheEventNow i (s.memEvents.extractLsb' Config.event2Low 4) then 1 else 0
  | 2 | 7 | 8 | 9 | 10 | 11 | 12 => if i.pins.getLsbD k then 1 else 0
  | _ => 0

/-! ### Timers -/

/-- The source field of TCTL (R66). -/
def Timer.source (t : Timer) : Nat := (t.ctl.extractLsb' Config.tctlSourceLow 4).toNat

/-- The clock cycles between two prescaler events (R641). -/
def Timer.divisor (t : Timer) : Nat := Config.prescaleDivisor (t.ctl.extractLsb' Config.tctlPrescaleLow 4)

/-- The modulus, 2^32 for 0 (R642). -/
def Timer.mod (t : Timer) : Nat := if t.modulus = 0 then 2 ^ 32 else t.modulus.toNat

/-- The prescaler gives an event in this clock cycle (R641). -/
def Timer.prescaled (t : Timer) : Bool := decide (t.divisor ≤ t.prescale + 1)

/-- The increment of this clock cycle (R640): CLOCK counts every cycle, PRESCALE its events, other sources `events`;
sources 13 to 15 count nothing (U20). -/
def Timer.increment (t : Timer) (events : Nat → Nat) : Nat :=
  match t.source with
  | 0 => 1
  | 1 => if t.prescaled then 1 else 0
  | k => events k

/-- One clock cycle of a timer (R642): the timer after it and whether it wraps. Nothing counts while the run bit is 0. -/
def Timer.tick (t : Timer) (events : Nat → Nat) : Timer × Bool :=
  if t.ctl.getLsbD Config.tctlRunBit then
    let inc := t.increment events
    let v := t.value.toNat
    let n := v + inc
    let pre := if t.prescaled then 0 else t.prescale + 1
    if 0 < inc ∧ v < t.mod ∧ t.mod ≤ n then
      ({ t with value := BitVec.ofNat 32 (n - t.mod), prescale := pre, pulse := t.pulse - 1 }, true)
    else ({ t with value := BitVec.ofNat 32 n, prescale := pre, pulse := t.pulse - 1 }, false)
  else ({ t with pulse := t.pulse - 1 }, false)

/-- The interrupt source of timer `k` (R628, R643). -/
def timerSource (k : Fin 4) : Fin 32 := ⟨k.val + 5, by omega⟩

/-- A leading edge on request line `n` (R621): pending in edge-triggered mode. -/
def State.leadingEdge (s : State) (n : Fin 32) : State :=
  if s.levelSensitive n then s else { s with pend := s.pend ||| bit n.val }

/-- The request pulse of timer `k` (R643): its length, at least one clock cycle, is free (U21; log 29). -/
def State.timerPulse (s : State) (k : Fin 4) : State :=
  let s := { s.drawn with timers := s.timers.set k { s.timers[k] with pulse := 1 + Config.freeNat s.freeCount } }
  s.leadingEdge (timerSource k)

/-- One clock cycle of timer `k`. -/
def State.tickTimer (s : State) (events : Nat → Nat) (k : Fin 4) : State :=
  let t := s.timers[k].tick events
  let s := { s with timers := s.timers.set k t.1 }
  if t.2 then s.timerPulse k else s

/-- One clock cycle of all timers. -/
def State.tickTimers (s : State) (events : Nat → Nat) : State :=
  (((s.tickTimer events 0).tickTimer events 1).tickTimer events 2).tickTimer events 3

/-! ### Clock cycles -/

/-- The request lines take the levels `lines`; a rising line makes an edge-triggered source pending (R621). The lines
of the timers' sources 5 to 8 are inside the core (R628). -/
def State.sampleLines (s : State) (lines : BitVec 32) : State :=
  let rising := lines &&& ~~~s.irqLines &&& ~~~0x1E0
  { s with
    irqLines := lines
    pend := s.pend ||| bitsOf 32 fun k => rising.getLsbD k && !s.levelSensitive (Fin.ofNat 32 k) }

/-- One clock cycle (R49, R621, R642): CCCOUNT where `count`, the timers with all their sources, and the request lines.
The events counted are spent. -/
def State.clockCycle (s : State) (i : CycleInputs) (instBreak count : Bool) : State :=
  let events := s.sourceEvents i instBreak
  let s := { s with
    ccMaster := if count then s.ccMaster + 1 else s.ccMaster
    issue := { s.issue with dataBreaks := 0 }
    cacheEvents := mapEach (fun n => n - 1) s.cacheEvents }
  (s.tickTimers events).sampleLines i.irq

/-- A clock cycle in which a running core is stalled (R30, R41): nothing issues, no result advances; CCCOUNT counts with
CS = 1. -/
def State.stallCycle (s : State) (i : CycleInputs) : State := s.clockCycle i false (countStalls s.pcsw)

end Sys2Proof.Machine
end

