-- ==== Sys2Proof/Machine/Env.lean ====
section
/-! DEFINITION. What the environment does to the core between two instructions: reset, start, PI-bus accesses to its
registers, powerdown, other masters' writes (spec/20_memory.md R131, R137, R139; spec/60_exceptions.md R660 to R663;
spec/70_reset_and_hazards.md R700 to R704; log 17). -/
namespace Sys2Proof.Machine

/-- Either reset (R80, R700): the defined initial state; the core does not run. What is outside the core stays: SDRAM,
the wires of MMIO_BASE, the request lines, and the model's own records. Pending copybacks and fetches are lost (log 25).
A reset in full powerdown leaves it, lowers tm32_pwrdwn_ack and forgets the request, even one that is still asserted, until
the next event of tm32_pwrdwn_req (log 19). -/
def State.resetCore (s : State) : State :=
  { State.reset with
    mem := s.mem
    mmioBase := s.mmioBase
    irqLines := s.irqLines
    piLog := s.piLog
    piReply := s.piReply
    freeCount := s.freeCount
    inbox := s.inbox }

/-- A PI-bus access to the core ends partial powerdown (R660). It does not keep awake a core that is only on its way
there (log 19). -/
def State.wakeByBus (s : State) : State := if s.run = .sleeping then { s with run := .running } else s

/-- Start (R704): a stopped core runs from TM32_START_ADDR; else no effect (U26). -/
def State.start (s : State) : State :=
  if s.run = .stopped then { s with run := .running, pc := s.startAddr } else s

/-- The configuration may change: the core does not run (U33). -/
def State.configurable (s : State) : Bool := decide (s.run = .stopped)

/-- A PI master writes TM32_CTL (R53, R704): ACTION 01 resets, which leaves PLL_EN and RATIO at their reset values (R80);
10 starts, 00 and 11 do nothing, and PLL_EN and RATIO are stored. Where the core runs, a change of RATIO, and by the
model's choice also a change of PLL_EN alone, is refused (U33, log 31). -/
def State.writeCtl (s : State) (v : Word) : Res State :=
  let action := v.extractLsb' 30 2
  let pll := v.extractLsb' 6 1
  let ratio := v.extractLsb' 0 6
  if action = 1 then .ok s.resetCore
  else if s.configurable ∨ (pll = s.ctlPllEn ∧ ratio = s.ctlRatio) then
    let s := { s with ctlPllEn := pll, ctlRatio := ratio }
    .ok (if action = 2 then s.start else s)
  else .error .configurationWhileRunning

/-- A PI master writes an aperture register (R54, R55, U33): `old` its value, `f` the update; 64 KB aligned. -/
def State.writeAperture (s : State) (old v : Word) (f : Word → State) : Res State :=
  let w := v &&& 0xFFFF0000
  if s.configurable ∨ w = old then .ok (f w) else .error .configurationWhileRunning

/-- A PI master writes the register `r` (R52). R73 and R74 say that a PI master should not enable cache locking and give no
consequence; by the model's choice its write does what a store of the core does (log 23). -/
def State.busWriteReg (s : State) (r : MmioReg) (v : Word) : Res State :=
  match r with
  | .ctl => s.writeCtl v
  | .dramLo => s.writeAperture s.dramLo v fun w => { s with dramLo := w }
  | .dramHi => s.writeAperture s.dramHi v fun w => { s with dramHi := w }
  | .dramClimit => s.writeAperture s.dramClimit v fun w => { s with dramClimit := w }
  | .apert1Lo => s.writeAperture s.apert1Lo v fun w => { s with apert1Lo := w }
  | .apert1Hi => s.writeAperture s.apert1Hi v fun w => { s with apert1Hi := w }
  | .startAddr => .ok { s with startAddr := v &&& 0xFFFFFFC0 }
  | r => s.writeMmioReg r v

/-- A PI master writes at an offset of the MMIO aperture (R131): ignored in full powerdown (R663). -/
def State.busWrite (s : State) (off : BitVec 21) (v : Word) : Res State :=
  if s.pwrdwn then .ok s
  else
    match mmioArea off.toNat with
    | .core => s.wakeByBus.busWriteReg (mmioReg off.toNat) v
    | _ => .ok s

/-- A PI master reads at an offset of the MMIO aperture (R131): a bogus value in full powerdown (R663); no reply where it
has no access (R52). -/
def State.busRead (s : State) (off : BitVec 21) : State :=
  if s.pwrdwn then { s.drawn with piReply := some (Config.freeWord s.freeCount) }
  else
    match mmioArea off.toNat, mmioReg off.toNat with
    | .core, .powerDown => { s.wakeByBus with piReply := none }
    | .core, r =>
      let p := s.wakeByBus.readMmioReg r
      { p.2 with piReply := some p.1 }
    | _, _ => { s with piReply := none }

/-- The level of tm32_pwrdwn_req (R663): asserted, it completes what is outstanding on the bus, stops the core and raises
tm32_pwrdwn_ack; negated, the core goes on where it left off. It acts at once and in every run state (log 19). -/
def State.powerdownRequest (s : State) (level : Bool) : State :=
  if level then { s.finishFetch.finishFetch.drained with fetches := [], pwrdwn := true, pwrdwnAck := true }
  else { s with pwrdwn := false, pwrdwnAck := false }

/-- An event that is no clock cycle. In full powerdown nothing is outstanding (R663). -/
def State.environment (s : State) (e : EnvEvent) : Res State :=
  match e with
  | .cycle _ | .stall _ => .ok s
  | .piWrite off v => s.busWrite off v
  | .piRead off => .ok (s.busRead off)
  | .dramWrite a b => .ok { s with mem := s.mem.write a.toNat b }
  | .drain => .ok (if s.pwrdwn then s else s.drainOldest)
  | .fetchDone => .ok (if s.pwrdwn then s else s.finishFetch)
  | .reset => .ok s.resetCore
  | .pwrdwnReq level => .ok (s.powerdownRequest level)

/-- A clock cycle of a stopped core (R703, D25): CCCOUNT does not count. -/
def State.stoppedCycle (s : State) (i : CycleInputs) : State := s.clockCycle i false false

/-- A clock cycle in partial powerdown (R660, R661): with CS = 0 it is a free choice whether CCCOUNT counts; an enabled
interrupt request wakes the core (D23). -/
def State.sleepCycle (s : State) (i : CycleInputs) : State :=
  let count := countStalls s.pcsw || Config.freeBool s.freeCount
  let s := s.drawn.clockCycle i false count
  match s.interruptWinner s.pcsw with
  | some _ => { s with run := .running }
  | none => s

/-- A clock cycle in full powerdown (R663): nothing counts; whether an edge on a request line is captured is a free
choice (log 19). -/
def State.offCycle (s : State) (i : CycleInputs) : State :=
  let d := s.drawBool
  if d.1 then d.2.sampleLines i.irq else { d.2 with irqLines := i.irq }

end Sys2Proof.Machine
end

