-- ==== Sys2Proof/WellFormed.lean ====
section
/-! DEFINITION. Which operations and instructions are well formed: what a model refuses before it runs anything
(spec/93_implementation_defined.md U1, U14, U25, U32; spec/92_eei_decisions.md D12). -/
namespace Sys2Proof

/-- The value is a multiple of `k` between `lo` and `hi`. -/
def inSteps (lo hi k v : Int) : Bool := decide (lo ≤ v) && decide (v ≤ hi) && decide (v % k = 0)

/-- The modifier lies in the range its kind allows and is a multiple of its scale (R187, R188, D12). -/
def Modifier.ok : Modifier → Bool
  | .none => true
  | .disp1 v => inSteps (-64) 63 1 v
  | .disp2 v => inSteps (-128) 126 2 v
  | .disp4 v => inSteps (-256) 252 4 v
  | .simm v => inSteps (-64) 63 1 v
  | .uimm v => inSteps 0 127 1 v
  | .shift v => inSteps 0 31 1 v
  | .imm32 v => inSteps (-2147483648) 2147483647 1 v
  | .uimm32 v => inSteps 0 4294967295 1 v
  | .addr _ => true

/-- The operation's modifier is legal (R188). -/
def Instr.modifierOk (i : Instr) : Bool := i.modifier.ok

/-- The operation's destination is none of r0 and r1 (R21, R189, U1). -/
def Instr.destOk (i : Instr) : Bool :=
  match i.dest? with
  | some d => decide (d ≠ 0) && decide (d ≠ 1)
  | none => true

/-- The source that must be r0 is r0 (R189, U14). -/
def Instr.sourceOk (i : Instr) : Bool :=
  match i.zeroSource? with
  | some r => decide (r = 0)
  | none => true

/-- The operation may be issued at all. -/
def Instr.wellFormed (i : Instr) : Bool := i.modifierOk && i.destOk && i.sourceOk

/-- The operation may stand in slot `k` (R190, U32). -/
def Instr.slotOk (i : Instr) (k : Nat) : Bool := decide (k ∈ i.unit.slots)

/-- The slot-5 constraint: no load or store in slot 4 beside a dmemspec operation in slot 5 (R716, U25). -/
def Bundle.portsOk (b : Bundle) : Bool := !(decide (b.slot5.unit = .dmemspec) && decide (b.slot4.unit = .dmem))

/-- Every operation of the instruction is well formed. -/
def Bundle.opsOk (b : Bundle) : Bool := b.ops.all fun p => p.2.wellFormed

/-- Every operation stands in a slot of its unit (R190). -/
def Bundle.slotsOk (b : Bundle) : Bool := b.ops.all fun p => p.2.slotOk p.1

/-- The instruction may be issued (R191). -/
def Bundle.wellFormed (b : Bundle) : Bool := b.opsOk && b.slotsOk && b.portsOk

end Sys2Proof
end

