-- ==== Sys2Proof/Decode.lean ====
section
/-! DEFINITION. The container format of the model and its decoder and encoder.

The manual does not document the binary form (spec/30_encoding.md R181); R185 lets a model decode from a form of its own,
refusing unassigned operation codes. The format is the MODEL'S (DESIGN CHOICE, log 1):
an operation is a 48-bit record with the operation code of R192 in bits 7:0 and each abstract field of R183 in a
field of its own, seven bits wide (32 bits for the 32-bit modifiers). A pseudo-operation has the code of its real
operation, uimm that of iimm (R184); the topmost bits tell the names of one code apart, and mark an empty slot, which
holds a nop and has no code. An instruction is 32 bytes: the five records of slots 1 to 5, each little endian in 6
bytes, then a 16-bit length, the distance to the next instruction (R182). -/
namespace Sys2Proof

/-- Why bytes are not an instruction. -/
inductive DecodeError
  /-- The operation code, with the number of the name, is assigned to no operation (R185, D11). -/
  | unassignedCode (code : BitVec 8)
  /-- A field that the operation does not have is not zero. -/
  | unusedField (code : BitVec 8)
  /-- The length is zero: no instruction starts here. -/
  | noLength
  /-- Fewer bytes than an instruction has. -/
  | truncated
deriving DecidableEq, Repr

/-- The 48-bit record of one operation. -/
abbrev OpWord := BitVec 48

/-- The fields of an operation with register sources and a 7-bit modifier. -/
structure Fields where
  g : Reg
  s1 : Reg
  s2 : Reg
  d : Reg
  m : BitVec 7
deriving DecidableEq, Repr

/-- Bits 7:0 of a record: the operation code. -/
def OpWord.code (w : OpWord) : BitVec 8 := w.extractLsb' 0 8

/-- The fields of a record, for operations without a 32-bit modifier. -/
def OpWord.fields (w : OpWord) : Fields where
  g := w.extractLsb' 8 7
  s1 := w.extractLsb' 15 7
  s2 := w.extractLsb' 22 7
  d := w.extractLsb' 29 7
  m := w.extractLsb' 36 7

/-- The register field of a record with a 32-bit modifier: its guard, or the destination of iimm and uimm. -/
def OpWord.immReg (w : OpWord) : Reg := w.extractLsb' 8 7

/-- The 32-bit modifier of a record. -/
def OpWord.imm (w : OpWord) : Word := w.extractLsb' 15 32

/-- The operation code is one with a 32-bit modifier (R187, R192): jmpi, ijmpi, iimm and uimm. -/
def hasImm (code : BitVec 8) : Bool := code == 178 || code == 179 || code == 191

/-- The number of the operation's name among those that share its code (R184): 0 for the real operation, and 31 for an
empty slot. It stands in bits 47:43, in bit 47 where bits 46:15 are a 32-bit modifier. -/
def OpWord.name (w : OpWord) : Nat :=
  if hasImm w.code then (w.extractLsb' 47 1).toNat else (w.extractLsb' 43 5).toNat

/-- `i` where the unused fields are zero, else no instruction. -/
def needZero (w : OpWord) (unused : Bool) (i : Instr) : Except DecodeError Instr :=
  if unused then .ok i else .error (.unusedField w.code)

/-- A signed field value times its scale (R187). -/
def signedField (m : BitVec 7) (scale : Int) : Int := scale * m.toInt

/-- An unsigned field value (R187). -/
def unsignedField (m : BitVec 7) : Int := (m.toNat : Int)

/-- The real operation with code `c` of the record `w`, whose fields are `f` (R192). Total: an unassigned code and a set
unused field are refused by name. -/
def decodeReal (w : OpWord) (f : Fields) (c : Nat) : Except DecodeError Instr :=
  match c with
  | 0 => needZero w (decide (f.s2 = 0)) (.igtri f.g (signedField f.m 1) f.s1 f.d)
  | 1 => needZero w (decide (f.s2 = 0)) (.igeqi f.g (signedField f.m 1) f.s1 f.d)
  | 2 => needZero w (decide (f.s2 = 0)) (.ilesi f.g (signedField f.m 1) f.s1 f.d)
  | 3 => needZero w (decide (f.s2 = 0)) (.ineqi f.g (signedField f.m 1) f.s1 f.d)
  | 4 => needZero w (decide (f.s2 = 0)) (.ieqli f.g (signedField f.m 1) f.s1 f.d)
  | 5 => needZero w (decide (f.s2 = 0)) (.iaddi f.g (unsignedField f.m) f.s1 f.d)
  | 6 => needZero w (decide (f.s2 = 0)) (.ild16d f.g (signedField f.m 2) f.s1 f.d)
  | 7 => needZero w (decide (f.s2 = 0)) (.ld32d f.g (signedField f.m 4) f.s1 f.d)
  | 8 => needZero w (decide (f.s2 = 0)) (.uld8d f.g (signedField f.m 1) f.s1 f.d)
  | 9 => needZero w (decide (f.s2 = 0)) (.lsri f.g (unsignedField f.m) f.s1 f.d)
  | 10 => needZero w (decide (f.s2 = 0)) (.asri f.g (unsignedField f.m) f.s1 f.d)
  | 11 => needZero w (decide (f.s2 = 0)) (.asli f.g (unsignedField f.m) f.s1 f.d)
  | 12 => needZero w (decide (f.m = 0)) (.iadd f.g f.s1 f.s2 f.d)
  | 13 => needZero w (decide (f.m = 0)) (.isub f.g f.s1 f.s2 f.d)
  | 14 => needZero w (decide (f.m = 0)) (.igeq f.g f.s1 f.s2 f.d)
  | 15 => needZero w (decide (f.m = 0)) (.igtr f.g f.s1 f.s2 f.d)
  | 16 => needZero w (decide (f.m = 0)) (.bitand f.g f.s1 f.s2 f.d)
  | 17 => needZero w (decide (f.m = 0)) (.bitor f.g f.s1 f.s2 f.d)
  | 18 => needZero w (decide (f.m = 0)) (.asr f.g f.s1 f.s2 f.d)
  | 19 => needZero w (decide (f.m = 0)) (.asl f.g f.s1 f.s2 f.d)
  | 20 => needZero w (decide (f.s2 = 0) && decide (f.m = 0)) (.ifloat f.g f.s1 f.d)
  | 21 => needZero w (decide (f.s2 = 0) && decide (f.m = 0)) (.ifixrz f.g f.s1 f.d)
  | 22 => needZero w (decide (f.m = 0)) (.fadd f.g f.s1 f.s2 f.d)
  | 23 => needZero w (decide (f.m = 0)) (.imin f.g f.s1 f.s2 f.d)
  | 24 => needZero w (decide (f.m = 0)) (.imax f.g f.s1 f.s2 f.d)
  | 25 => needZero w (decide (f.m = 0)) (.iavgonep f.g f.s1 f.s2 f.d)
  | 26 => needZero w (decide (f.m = 0)) (.ume8uu f.g f.s1 f.s2 f.d)
  | 27 => needZero w (decide (f.m = 0)) (.imul f.g f.s1 f.s2 f.d)
  | 28 => needZero w (decide (f.m = 0)) (.fmul f.g f.s1 f.s2 f.d)
  | 29 => needZero w (decide (f.d = 0)) (.hSt8d f.g (signedField f.m 1) f.s1 f.s2)
  | 30 => needZero w (decide (f.d = 0)) (.hSt16d f.g (signedField f.m 2) f.s1 f.s2)
  | 31 => needZero w (decide (f.d = 0)) (.hSt32d f.g (signedField f.m 4) f.s1 f.s2)
  | 32 => needZero w (decide (f.s2 = 0)) (.isubi f.g (unsignedField f.m) f.s1 f.d)
  | 33 => needZero w (decide (f.m = 0)) (.ugtr f.g f.s1 f.s2 f.d)
  | 34 => needZero w (decide (f.s2 = 0)) (.ugtri f.g (unsignedField f.m) f.s1 f.d)
  | 35 => needZero w (decide (f.m = 0)) (.ugeq f.g f.s1 f.s2 f.d)
  | 36 => needZero w (decide (f.s2 = 0)) (.ugeqi f.g (unsignedField f.m) f.s1 f.d)
  | 37 => needZero w (decide (f.m = 0)) (.ieql f.g f.s1 f.s2 f.d)
  | 38 => needZero w (decide (f.s2 = 0)) (.ueqli f.g (unsignedField f.m) f.s1 f.d)
  | 39 => needZero w (decide (f.m = 0)) (.ineq f.g f.s1 f.s2 f.d)
  | 40 => needZero w (decide (f.s2 = 0)) (.uneqi f.g (unsignedField f.m) f.s1 f.d)
  | 41 => needZero w (decide (f.s2 = 0)) (.ulesi f.g (unsignedField f.m) f.s1 f.d)
  | 42 => needZero w (decide (f.s2 = 0)) (.ileqi f.g (signedField f.m 1) f.s1 f.d)
  | 43 => needZero w (decide (f.s2 = 0)) (.uleqi f.g (unsignedField f.m) f.s1 f.d)
  | 44 => needZero w (decide (f.m = 0)) (.hIabs f.g f.s1 f.s2 f.d)
  | 45 => needZero w (decide (f.m = 0)) (.carry f.g f.s1 f.s2 f.d)
  | 46 => needZero w (decide (f.m = 0)) (.izero f.g f.s1 f.s2 f.d)
  | 47 => needZero w (decide (f.m = 0)) (.inonzero f.g f.s1 f.s2 f.d)
  | 48 => needZero w (decide (f.m = 0)) (.bitxor f.g f.s1 f.s2 f.d)
  | 49 => needZero w (decide (f.m = 0)) (.bitandinv f.g f.s1 f.s2 f.d)
  | 50 => needZero w (decide (f.s2 = 0) && decide (f.m = 0)) (.bitinv f.g f.s1 f.d)
  | 51 => needZero w (decide (f.s2 = 0) && decide (f.m = 0)) (.sex16 f.g f.s1 f.d)
  | 52 => needZero w (decide (f.m = 0)) (.packbytes f.g f.s1 f.s2 f.d)
  | 53 => needZero w (decide (f.m = 0)) (.pack16lsb f.g f.s1 f.s2 f.d)
  | 54 => needZero w (decide (f.m = 0)) (.pack16msb f.g f.s1 f.s2 f.d)
  | 55 => needZero w (decide (f.m = 0)) (.ubytesel f.g f.s1 f.s2 f.d)
  | 56 => needZero w (decide (f.m = 0)) (.ibytesel f.g f.s1 f.s2 f.d)
  | 57 => needZero w (decide (f.m = 0)) (.mergelsb f.g f.s1 f.s2 f.d)
  | 58 => needZero w (decide (f.m = 0)) (.mergemsb f.g f.s1 f.s2 f.d)
  | 64 => needZero w (decide (f.m = 0)) (.ume8ii f.g f.s1 f.s2 f.d)
  | 65 => needZero w (decide (f.m = 0)) (.hDspiabs f.g f.s1 f.s2 f.d)
  | 66 => needZero w (decide (f.m = 0)) (.dspiadd f.g f.s1 f.s2 f.d)
  | 67 => needZero w (decide (f.m = 0)) (.dspuadd f.g f.s1 f.s2 f.d)
  | 68 => needZero w (decide (f.m = 0)) (.dspisub f.g f.s1 f.s2 f.d)
  | 69 => needZero w (decide (f.m = 0)) (.dspusub f.g f.s1 f.s2 f.d)
  | 70 => needZero w (decide (f.m = 0)) (.dspidualadd f.g f.s1 f.s2 f.d)
  | 71 => needZero w (decide (f.m = 0)) (.dspidualsub f.g f.s1 f.s2 f.d)
  | 72 => needZero w (decide (f.m = 0)) (.hDspidualabs f.g f.s1 f.s2 f.d)
  | 73 => needZero w (decide (f.m = 0)) (.quadavg f.g f.s1 f.s2 f.d)
  | 74 => needZero w (decide (f.m = 0)) (.iclipi f.g f.s1 f.s2 f.d)
  | 75 => needZero w (decide (f.m = 0)) (.uclipi f.g f.s1 f.s2 f.d)
  | 76 => needZero w (decide (f.m = 0)) (.uclipu f.g f.s1 f.s2 f.d)
  | 77 => needZero w (decide (f.m = 0)) (.iflip f.g f.s1 f.s2 f.d)
  | 78 => needZero w (decide (f.m = 0)) (.dspuquadaddui f.g f.s1 f.s2 f.d)
  | 80 => needZero w (decide (f.m = 0)) (.quadumin f.g f.s1 f.s2 f.d)
  | 81 => needZero w (decide (f.m = 0)) (.quadumax f.g f.s1 f.s2 f.d)
  | 82 => needZero w (decide (f.m = 0)) (.dualiclipi f.g f.s1 f.s2 f.d)
  | 83 => needZero w (decide (f.m = 0)) (.dualuclipi f.g f.s1 f.s2 f.d)
  | 89 => needZero w (decide (f.m = 0)) (.quadumulmsb f.g f.s1 f.s2 f.d)
  | 90 => needZero w (decide (f.m = 0)) (.ufir8uu f.g f.s1 f.s2 f.d)
  | 91 => needZero w (decide (f.m = 0)) (.ifir8ui f.g f.s1 f.s2 f.d)
  | 92 => needZero w (decide (f.m = 0)) (.ifir8ii f.g f.s1 f.s2 f.d)
  | 93 => needZero w (decide (f.m = 0)) (.ifir16 f.g f.s1 f.s2 f.d)
  | 94 => needZero w (decide (f.m = 0)) (.ufir16 f.g f.s1 f.s2 f.d)
  | 95 => needZero w (decide (f.m = 0)) (.dspidualmul f.g f.s1 f.s2 f.d)
  | 96 => needZero w (decide (f.m = 0)) (.lsr f.g f.s1 f.s2 f.d)
  | 97 => needZero w (decide (f.m = 0)) (.rol f.g f.s1 f.s2 f.d)
  | 98 => needZero w (decide (f.s2 = 0)) (.roli f.g (unsignedField f.m) f.s1 f.d)
  | 99 => needZero w (decide (f.m = 0)) (.funshift1 f.g f.s1 f.s2 f.d)
  | 100 => needZero w (decide (f.m = 0)) (.funshift2 f.g f.s1 f.s2 f.d)
  | 101 => needZero w (decide (f.m = 0)) (.funshift3 f.g f.s1 f.s2 f.d)
  | 102 => needZero w (decide (f.m = 0)) (.dualasr f.g f.s1 f.s2 f.d)
  | 103 => needZero w (decide (f.m = 0)) (.mergedual16lsb f.g f.s1 f.s2 f.d)
  | 108 => needZero w (decide (f.m = 0)) (.fdiv f.g f.s1 f.s2 f.d)
  | 109 => needZero w (decide (f.m = 0)) (.fdivflags f.g f.s1 f.s2 f.d)
  | 110 => needZero w (decide (f.s2 = 0) && decide (f.m = 0)) (.fsqrt f.g f.s1 f.d)
  | 111 => needZero w (decide (f.s2 = 0) && decide (f.m = 0)) (.fsqrtflags f.g f.s1 f.d)
  | 112 => needZero w (decide (f.m = 0)) (.faddflags f.g f.s1 f.s2 f.d)
  | 113 => needZero w (decide (f.m = 0)) (.fsub f.g f.s1 f.s2 f.d)
  | 114 => needZero w (decide (f.m = 0)) (.fsubflags f.g f.s1 f.s2 f.d)
  | 115 => needZero w (decide (f.s2 = 0) && decide (f.m = 0)) (.fabsval f.g f.s1 f.d)
  | 116 => needZero w (decide (f.s2 = 0) && decide (f.m = 0)) (.fabsvalflags f.g f.s1 f.d)
  | 117 => needZero w (decide (f.s2 = 0) && decide (f.m = 0)) (.ifloatrz f.g f.s1 f.d)
  | 118 => needZero w (decide (f.s2 = 0) && decide (f.m = 0)) (.ifloatrzflags f.g f.s1 f.d)
  | 119 => needZero w (decide (f.s2 = 0) && decide (f.m = 0)) (.ufloatrz f.g f.s1 f.d)
  | 120 => needZero w (decide (f.s2 = 0) && decide (f.m = 0)) (.ufloatrzflags f.g f.s1 f.d)
  | 121 => needZero w (decide (f.s2 = 0) && decide (f.m = 0)) (.ifixieee f.g f.s1 f.d)
  | 122 => needZero w (decide (f.s2 = 0) && decide (f.m = 0)) (.ifixieeeflags f.g f.s1 f.d)
  | 123 => needZero w (decide (f.s2 = 0) && decide (f.m = 0)) (.ufixieee f.g f.s1 f.d)
  | 124 => needZero w (decide (f.s2 = 0) && decide (f.m = 0)) (.ufixieeeflags f.g f.s1 f.d)
  | 125 => needZero w (decide (f.s2 = 0) && decide (f.m = 0)) (.ufixrz f.g f.s1 f.d)
  | 126 => needZero w (decide (f.s2 = 0) && decide (f.m = 0)) (.ufixrzflags f.g f.s1 f.d)
  | 127 => needZero w (decide (f.s2 = 0) && decide (f.m = 0)) (.ufloat f.g f.s1 f.d)
  | 128 => needZero w (decide (f.s2 = 0) && decide (f.m = 0)) (.ufloatflags f.g f.s1 f.d)
  | 129 => needZero w (decide (f.s2 = 0) && decide (f.m = 0)) (.ifixrzflags f.g f.s1 f.d)
  | 130 => needZero w (decide (f.s2 = 0) && decide (f.m = 0)) (.ifloatflags f.g f.s1 f.d)
  | 138 => needZero w (decide (f.m = 0)) (.umul f.g f.s1 f.s2 f.d)
  | 139 => needZero w (decide (f.m = 0)) (.imulm f.g f.s1 f.s2 f.d)
  | 140 => needZero w (decide (f.m = 0)) (.umulm f.g f.s1 f.s2 f.d)
  | 141 => needZero w (decide (f.m = 0)) (.dspimul f.g f.s1 f.s2 f.d)
  | 142 => needZero w (decide (f.m = 0)) (.dspumul f.g f.s1 f.s2 f.d)
  | 143 => needZero w (decide (f.m = 0)) (.fmulflags f.g f.s1 f.s2 f.d)
  | 144 => needZero w (decide (f.m = 0)) (.fgtr f.g f.s1 f.s2 f.d)
  | 145 => needZero w (decide (f.m = 0)) (.fgtrflags f.g f.s1 f.s2 f.d)
  | 146 => needZero w (decide (f.m = 0)) (.fgeq f.g f.s1 f.s2 f.d)
  | 147 => needZero w (decide (f.m = 0)) (.fgeqflags f.g f.s1 f.s2 f.d)
  | 148 => needZero w (decide (f.m = 0)) (.feql f.g f.s1 f.s2 f.d)
  | 149 => needZero w (decide (f.m = 0)) (.feqlflags f.g f.s1 f.s2 f.d)
  | 150 => needZero w (decide (f.m = 0)) (.fneq f.g f.s1 f.s2 f.d)
  | 151 => needZero w (decide (f.m = 0)) (.fneqflags f.g f.s1 f.s2 f.d)
  | 152 => needZero w (decide (f.s2 = 0) && decide (f.m = 0)) (.fsign f.g f.s1 f.d)
  | 153 => needZero w (decide (f.s2 = 0) && decide (f.m = 0)) (.fsignflags f.g f.s1 f.d)
  | 154 => needZero w (decide (f.s1 = 0) && decide (f.s2 = 0) && decide (f.m = 0)) (.cycles f.g f.d)
  | 155 => needZero w (decide (f.s1 = 0) && decide (f.s2 = 0) && decide (f.m = 0)) (.hicycles f.g f.d)
  | 156 => needZero w (decide (f.s1 = 0) && decide (f.s2 = 0) && decide (f.m = 0)) (.readdpc f.g f.d)
  | 157 => needZero w (decide (f.s1 = 0) && decide (f.s2 = 0) && decide (f.m = 0)) (.readspc f.g f.d)
  | 158 => needZero w (decide (f.s1 = 0) && decide (f.s2 = 0) && decide (f.m = 0)) (.readpcsw f.g f.d)
  | 159 => needZero w (decide (f.s2 = 0) && decide (f.d = 0) && decide (f.m = 0)) (.writespc f.g f.s1)
  | 160 => needZero w (decide (f.s2 = 0) && decide (f.d = 0) && decide (f.m = 0)) (.writedpc f.g f.s1)
  | 161 => needZero w (decide (f.d = 0) && decide (f.m = 0)) (.writepcsw f.g f.s1 f.s2)
  | 162 => needZero w (decide (f.s1 = 0) && decide (f.s2 = 0) && decide (f.m = 0)) (.curcycles f.g f.d)
  | 176 => needZero w (decide (f.d = 0) && decide (f.m = 0)) (.jmpt f.g f.s1 f.s2)
  | 177 => needZero w (decide (f.d = 0) && decide (f.m = 0)) (.ijmpt f.g f.s1 f.s2)
  | 178 => .ok (.jmpi w.immReg w.imm)
  | 179 => .ok (.ijmpi w.immReg w.imm)
  | 180 => needZero w (decide (f.d = 0) && decide (f.m = 0)) (.jmpf f.g f.s1 f.s2)
  | 181 => needZero w (decide (f.d = 0) && decide (f.m = 0)) (.ijmpf f.g f.s1 f.s2)
  | 184 => needZero w (decide (f.s1 = 0) && decide (f.s2 = 0) && decide (f.d = 0) && decide (f.m = 0)) (.iclr f.g)
  | 191 => .ok (.iimm w.imm.toInt w.immReg)
  | 192 => needZero w (decide (f.s2 = 0)) (.ild8d f.g (signedField f.m 1) f.s1 f.d)
  | 193 => needZero w (decide (f.m = 0)) (.ild8r f.g f.s1 f.s2 f.d)
  | 194 => needZero w (decide (f.m = 0)) (.uld8r f.g f.s1 f.s2 f.d)
  | 195 => needZero w (decide (f.m = 0)) (.ild16r f.g f.s1 f.s2 f.d)
  | 196 => needZero w (decide (f.m = 0)) (.ild16x f.g f.s1 f.s2 f.d)
  | 197 => needZero w (decide (f.s2 = 0)) (.uld16d f.g (signedField f.m 2) f.s1 f.d)
  | 198 => needZero w (decide (f.m = 0)) (.uld16r f.g f.s1 f.s2 f.d)
  | 199 => needZero w (decide (f.m = 0)) (.uld16x f.g f.s1 f.s2 f.d)
  | 200 => needZero w (decide (f.m = 0)) (.ld32r f.g f.s1 f.s2 f.d)
  | 201 => needZero w (decide (f.m = 0)) (.ld32x f.g f.s1 f.s2 f.d)
  | 202 => needZero w (decide (f.s2 = 0)) (.rdtag f.g (signedField f.m 4) f.s1 f.d)
  | 203 => needZero w (decide (f.s2 = 0)) (.rdstatus f.g (signedField f.m 4) f.s1 f.d)
  | 205 => needZero w (decide (f.s2 = 0) && decide (f.d = 0)) (.dcb f.g (signedField f.m 4) f.s1)
  | 206 => needZero w (decide (f.s2 = 0) && decide (f.d = 0)) (.dinvalid f.g (signedField f.m 4) f.s1)
  | 209 => needZero w (decide (f.s2 = 0) && decide (f.d = 0)) (.prefd f.g (signedField f.m 4) f.s1)
  | 210 => needZero w (decide (f.d = 0) && decide (f.m = 0)) (.prefr f.g f.s1 f.s2)
  | 211 => needZero w (decide (f.d = 0) && decide (f.m = 0)) (.pref16x f.g f.s1 f.s2)
  | 212 => needZero w (decide (f.d = 0) && decide (f.m = 0)) (.pref32x f.g f.s1 f.s2)
  | 213 => needZero w (decide (f.s2 = 0) && decide (f.d = 0)) (.allocd f.g (signedField f.m 4) f.s1)
  | 214 => needZero w (decide (f.d = 0) && decide (f.m = 0)) (.allocr f.g f.s1 f.s2)
  | 215 => needZero w (decide (f.d = 0) && decide (f.m = 0)) (.allocx f.g f.s1 f.s2)
  | _ => .error (.unassignedCode w.code)

/-- The first pseudo-operation of the real operation with code `c`; uimm beside iimm (R184, R192). -/
def decodePseudo (w : OpWord) (f : Fields) (c : Nat) : Except DecodeError Instr :=
  match c with
  | 6 => needZero w (decide (f.s2 = 0) && decide (f.m = 0)) (.ild16 f.g f.s1 f.d)
  | 7 => needZero w (decide (f.s2 = 0) && decide (f.m = 0)) (.ld32 f.g f.s1 f.d)
  | 8 => needZero w (decide (f.s2 = 0) && decide (f.m = 0)) (.uld8 f.g f.s1 f.d)
  | 11 => needZero w (decide (f.s2 = 0)) (.lsli f.g (unsignedField f.m) f.s1 f.d)
  | 12 => needZero w (decide (f.s2 = 0) && decide (f.m = 0)) (.ident f.g f.s1 f.d)
  | 13 => needZero w (decide (f.s2 = 0) && decide (f.m = 0)) (.ineg f.g f.s1 f.d)
  | 14 => needZero w (decide (f.m = 0)) (.ileq f.g f.s1 f.s2 f.d)
  | 15 => needZero w (decide (f.m = 0)) (.iles f.g f.s1 f.s2 f.d)
  | 19 => needZero w (decide (f.m = 0)) (.lsl f.g f.s1 f.s2 f.d)
  | 29 => needZero w (decide (f.d = 0) && decide (f.m = 0)) (.st8 f.g f.s1 f.s2)
  | 30 => needZero w (decide (f.d = 0) && decide (f.m = 0)) (.st16 f.g f.s1 f.s2)
  | 31 => needZero w (decide (f.d = 0) && decide (f.m = 0)) (.st32 f.g f.s1 f.s2)
  | 33 => needZero w (decide (f.m = 0)) (.borrow f.g f.s1 f.s2 f.d)
  | 35 => needZero w (decide (f.m = 0)) (.uleq f.g f.s1 f.s2 f.d)
  | 37 => needZero w (decide (f.m = 0)) (.ueql f.g f.s1 f.s2 f.d)
  | 39 => needZero w (decide (f.m = 0)) (.uneq f.g f.s1 f.s2 f.d)
  | 44 => needZero w (decide (f.s2 = 0) && decide (f.m = 0)) (.iabs f.g f.s1 f.d)
  | 53 => needZero w (decide (f.s2 = 0) && decide (f.m = 0)) (.zex16 f.g f.s1 f.d)
  | 55 => needZero w (decide (f.s2 = 0) && decide (f.m = 0)) (.zex8 f.g f.s1 f.d)
  | 56 => needZero w (decide (f.s2 = 0) && decide (f.m = 0)) (.sex8 f.g f.s1 f.d)
  | 65 => needZero w (decide (f.s2 = 0) && decide (f.m = 0)) (.dspiabs f.g f.s1 f.d)
  | 72 => needZero w (decide (f.s2 = 0) && decide (f.m = 0)) (.dspidualabs f.g f.s1 f.d)
  | 76 => needZero w (decide (f.m = 0)) (.umin f.g f.s1 f.s2 f.d)
  | 144 => needZero w (decide (f.m = 0)) (.fles f.g f.s1 f.s2 f.d)
  | 145 => needZero w (decide (f.m = 0)) (.flesflags f.g f.s1 f.s2 f.d)
  | 146 => needZero w (decide (f.m = 0)) (.fleq f.g f.s1 f.s2 f.d)
  | 147 => needZero w (decide (f.m = 0)) (.fleqflags f.g f.s1 f.s2 f.d)
  | 191 => .ok (.uimm (w.imm.toNat : Int) w.immReg)
  | 192 => needZero w (decide (f.s2 = 0) && decide (f.m = 0)) (.ild8 f.g f.s1 f.d)
  | 197 => needZero w (decide (f.s2 = 0) && decide (f.m = 0)) (.uld16 f.g f.s1 f.d)
  | 209 => needZero w (decide (f.s2 = 0) && decide (f.d = 0) && decide (f.m = 0)) (.pref f.g f.s1)
  | 213 => needZero w (decide (f.s2 = 0) && decide (f.d = 0) && decide (f.m = 0)) (.alloc f.g f.s1)
  | _ => .error (.unassignedCode w.code)

/-- The second pseudo-operation of the real operation with code `c` (R192). -/
def decodePseudo2 (w : OpWord) (f : Fields) (c : Nat) : Except DecodeError Instr :=
  match c with
  | 29 => needZero w (decide (f.d = 0)) (.st8d f.g (signedField f.m 1) f.s1 f.s2)
  | 30 => needZero w (decide (f.d = 0)) (.st16d f.g (signedField f.m 2) f.s1 f.s2)
  | 31 => needZero w (decide (f.d = 0)) (.st32d f.g (signedField f.m 4) f.s1 f.s2)
  | 33 => needZero w (decide (f.m = 0)) (.ules f.g f.s1 f.s2 f.d)
  | _ => .error (.unassignedCode w.code)

/-- An empty slot: nop, which has no operation code (R184); every other bit of the record is zero. -/
def decodeEmpty (w : OpWord) (c : Nat) : Except DecodeError Instr :=
  match c with
  | 0 => needZero w (decide (w.fields = ⟨0, 0, 0, 0, 0⟩)) .nop
  | _ => .error (.unassignedCode w.code)

/-- The operation with code `c` and name number `n` of the record `w`, whose fields are `f`. -/
def decodeNamed (w : OpWord) (f : Fields) (c : Nat) : Nat → Except DecodeError Instr
  | 0 => decodeReal w f c
  | 1 => decodePseudo w f c
  | 2 => decodePseudo2 w f c
  | 31 => decodeEmpty w c
  | _ => .error (.unassignedCode w.code)

/-- Decode one operation record. -/
def decodeOp (w : OpWord) : Except DecodeError Instr := decodeNamed w w.fields w.code.toNat w.name

/-- The bytes of a record, least significant first. -/
def opBytes (w : OpWord) : List Byte :=
  [w.extractLsb' 0 8, w.extractLsb' 8 8, w.extractLsb' 16 8, w.extractLsb' 24 8, w.extractLsb' 32 8,
   w.extractLsb' 40 8]

/-- The record held in six bytes, least significant first. -/
def opOfBytes (b0 b1 b2 b3 b4 b5 : Byte) : OpWord := b5 ++ b4 ++ b3 ++ b2 ++ b1 ++ b0

/-- The number of bytes of an instruction image. -/
def imageBytes : Nat := 32

/-- Decode an instruction image: five records and the length. Total on any bytes; bytes after the image are the rest. -/
def decode : List Byte → Except DecodeError (Bundle × List Byte)
  | a0 :: a1 :: a2 :: a3 :: a4 :: a5 :: b0 :: b1 :: b2 :: b3 :: b4 :: b5 ::
    c0 :: c1 :: c2 :: c3 :: c4 :: c5 :: d0 :: d1 :: d2 :: d3 :: d4 :: d5 ::
    e0 :: e1 :: e2 :: e3 :: e4 :: e5 :: l0 :: l1 :: rest =>
    if l1 ++ l0 = (0 : BitVec 16) then .error .noLength
    else
      match decodeOp (opOfBytes a0 a1 a2 a3 a4 a5), decodeOp (opOfBytes b0 b1 b2 b3 b4 b5),
        decodeOp (opOfBytes c0 c1 c2 c3 c4 c5), decodeOp (opOfBytes d0 d1 d2 d3 d4 d5),
        decodeOp (opOfBytes e0 e1 e2 e3 e4 e5) with
      | .ok i1, .ok i2, .ok i3, .ok i4, .ok i5 => .ok (⟨i1, i2, i3, i4, i5, l1 ++ l0⟩, rest)
      | .error e, _, _, _, _ => .error e
      | _, .error e, _, _, _ => .error e
      | _, _, .error e, _, _ => .error e
      | _, _, _, .error e, _ => .error e
      | _, _, _, _, .error e => .error e
  | _ => .error .truncated

/-! ### The encoder -/

/-- The record with code `c`, name number `n` and fields `f`. -/
def packFields (c : BitVec 8) (n : BitVec 5) (f : Fields) : OpWord := n ++ f.m ++ f.d ++ f.s2 ++ f.s1 ++ f.g ++ c

/-- The record with code `c`, name number `n`, register `r` and 32-bit modifier `v`. -/
def packImm (c : BitVec 8) (n : BitVec 1) (r : Reg) (v : Word) : OpWord := n ++ v ++ r ++ c

/-- The field value of a modifier of `scale` (R187). -/
def modField (v : Int) (scale : Int) : BitVec 7 := BitVec.ofInt 7 (v / scale)

/-- The record of an operation. -/
def encodeOp : Instr → OpWord
  | .alloc g s1 => packFields 213 1 ⟨g, s1, 0, 0, 0⟩
  | .allocd g m s1 => packFields 213 0 ⟨g, s1, 0, 0, modField m 4⟩
  | .allocr g s1 s2 => packFields 214 0 ⟨g, s1, s2, 0, 0⟩
  | .allocx g s1 s2 => packFields 215 0 ⟨g, s1, s2, 0, 0⟩
  | .asl g s1 s2 d => packFields 19 0 ⟨g, s1, s2, d, 0⟩
  | .asli g m s1 d => packFields 11 0 ⟨g, s1, 0, d, modField m 1⟩
  | .asr g s1 s2 d => packFields 18 0 ⟨g, s1, s2, d, 0⟩
  | .asri g m s1 d => packFields 10 0 ⟨g, s1, 0, d, modField m 1⟩
  | .bitand g s1 s2 d => packFields 16 0 ⟨g, s1, s2, d, 0⟩
  | .bitandinv g s1 s2 d => packFields 49 0 ⟨g, s1, s2, d, 0⟩
  | .bitinv g s1 d => packFields 50 0 ⟨g, s1, 0, d, 0⟩
  | .bitor g s1 s2 d => packFields 17 0 ⟨g, s1, s2, d, 0⟩
  | .bitxor g s1 s2 d => packFields 48 0 ⟨g, s1, s2, d, 0⟩
  | .borrow g s1 s2 d => packFields 33 1 ⟨g, s1, s2, d, 0⟩
  | .carry g s1 s2 d => packFields 45 0 ⟨g, s1, s2, d, 0⟩
  | .curcycles g d => packFields 162 0 ⟨g, 0, 0, d, 0⟩
  | .cycles g d => packFields 154 0 ⟨g, 0, 0, d, 0⟩
  | .dcb g m s1 => packFields 205 0 ⟨g, s1, 0, 0, modField m 4⟩
  | .dinvalid g m s1 => packFields 206 0 ⟨g, s1, 0, 0, modField m 4⟩
  | .dspiabs g s1 d => packFields 65 1 ⟨g, s1, 0, d, 0⟩
  | .dspiadd g s1 s2 d => packFields 66 0 ⟨g, s1, s2, d, 0⟩
  | .dspidualabs g s1 d => packFields 72 1 ⟨g, s1, 0, d, 0⟩
  | .dspidualadd g s1 s2 d => packFields 70 0 ⟨g, s1, s2, d, 0⟩
  | .dspidualmul g s1 s2 d => packFields 95 0 ⟨g, s1, s2, d, 0⟩
  | .dspidualsub g s1 s2 d => packFields 71 0 ⟨g, s1, s2, d, 0⟩
  | .dspimul g s1 s2 d => packFields 141 0 ⟨g, s1, s2, d, 0⟩
  | .dspisub g s1 s2 d => packFields 68 0 ⟨g, s1, s2, d, 0⟩
  | .dspuadd g s1 s2 d => packFields 67 0 ⟨g, s1, s2, d, 0⟩
  | .dspumul g s1 s2 d => packFields 142 0 ⟨g, s1, s2, d, 0⟩
  | .dspuquadaddui g s1 s2 d => packFields 78 0 ⟨g, s1, s2, d, 0⟩
  | .dspusub g s1 s2 d => packFields 69 0 ⟨g, s1, s2, d, 0⟩
  | .dualasr g s1 s2 d => packFields 102 0 ⟨g, s1, s2, d, 0⟩
  | .dualiclipi g s1 s2 d => packFields 82 0 ⟨g, s1, s2, d, 0⟩
  | .dualuclipi g s1 s2 d => packFields 83 0 ⟨g, s1, s2, d, 0⟩
  | .fabsval g s1 d => packFields 115 0 ⟨g, s1, 0, d, 0⟩
  | .fabsvalflags g s1 d => packFields 116 0 ⟨g, s1, 0, d, 0⟩
  | .fadd g s1 s2 d => packFields 22 0 ⟨g, s1, s2, d, 0⟩
  | .faddflags g s1 s2 d => packFields 112 0 ⟨g, s1, s2, d, 0⟩
  | .fdiv g s1 s2 d => packFields 108 0 ⟨g, s1, s2, d, 0⟩
  | .fdivflags g s1 s2 d => packFields 109 0 ⟨g, s1, s2, d, 0⟩
  | .feql g s1 s2 d => packFields 148 0 ⟨g, s1, s2, d, 0⟩
  | .feqlflags g s1 s2 d => packFields 149 0 ⟨g, s1, s2, d, 0⟩
  | .fgeq g s1 s2 d => packFields 146 0 ⟨g, s1, s2, d, 0⟩
  | .fgeqflags g s1 s2 d => packFields 147 0 ⟨g, s1, s2, d, 0⟩
  | .fgtr g s1 s2 d => packFields 144 0 ⟨g, s1, s2, d, 0⟩
  | .fgtrflags g s1 s2 d => packFields 145 0 ⟨g, s1, s2, d, 0⟩
  | .fleq g s1 s2 d => packFields 146 1 ⟨g, s1, s2, d, 0⟩
  | .fleqflags g s1 s2 d => packFields 147 1 ⟨g, s1, s2, d, 0⟩
  | .fles g s1 s2 d => packFields 144 1 ⟨g, s1, s2, d, 0⟩
  | .flesflags g s1 s2 d => packFields 145 1 ⟨g, s1, s2, d, 0⟩
  | .fmul g s1 s2 d => packFields 28 0 ⟨g, s1, s2, d, 0⟩
  | .fmulflags g s1 s2 d => packFields 143 0 ⟨g, s1, s2, d, 0⟩
  | .fneq g s1 s2 d => packFields 150 0 ⟨g, s1, s2, d, 0⟩
  | .fneqflags g s1 s2 d => packFields 151 0 ⟨g, s1, s2, d, 0⟩
  | .fsign g s1 d => packFields 152 0 ⟨g, s1, 0, d, 0⟩
  | .fsignflags g s1 d => packFields 153 0 ⟨g, s1, 0, d, 0⟩
  | .fsqrt g s1 d => packFields 110 0 ⟨g, s1, 0, d, 0⟩
  | .fsqrtflags g s1 d => packFields 111 0 ⟨g, s1, 0, d, 0⟩
  | .fsub g s1 s2 d => packFields 113 0 ⟨g, s1, s2, d, 0⟩
  | .fsubflags g s1 s2 d => packFields 114 0 ⟨g, s1, s2, d, 0⟩
  | .funshift1 g s1 s2 d => packFields 99 0 ⟨g, s1, s2, d, 0⟩
  | .funshift2 g s1 s2 d => packFields 100 0 ⟨g, s1, s2, d, 0⟩
  | .funshift3 g s1 s2 d => packFields 101 0 ⟨g, s1, s2, d, 0⟩
  | .hDspiabs g s1 s2 d => packFields 65 0 ⟨g, s1, s2, d, 0⟩
  | .hDspidualabs g s1 s2 d => packFields 72 0 ⟨g, s1, s2, d, 0⟩
  | .hIabs g s1 s2 d => packFields 44 0 ⟨g, s1, s2, d, 0⟩
  | .hSt16d g m s1 s2 => packFields 30 0 ⟨g, s1, s2, 0, modField m 2⟩
  | .hSt32d g m s1 s2 => packFields 31 0 ⟨g, s1, s2, 0, modField m 4⟩
  | .hSt8d g m s1 s2 => packFields 29 0 ⟨g, s1, s2, 0, modField m 1⟩
  | .hicycles g d => packFields 155 0 ⟨g, 0, 0, d, 0⟩
  | .iabs g s1 d => packFields 44 1 ⟨g, s1, 0, d, 0⟩
  | .iadd g s1 s2 d => packFields 12 0 ⟨g, s1, s2, d, 0⟩
  | .iaddi g m s1 d => packFields 5 0 ⟨g, s1, 0, d, modField m 1⟩
  | .iavgonep g s1 s2 d => packFields 25 0 ⟨g, s1, s2, d, 0⟩
  | .ibytesel g s1 s2 d => packFields 56 0 ⟨g, s1, s2, d, 0⟩
  | .iclipi g s1 s2 d => packFields 74 0 ⟨g, s1, s2, d, 0⟩
  | .iclr g => packFields 184 0 ⟨g, 0, 0, 0, 0⟩
  | .ident g s1 d => packFields 12 1 ⟨g, s1, 0, d, 0⟩
  | .ieql g s1 s2 d => packFields 37 0 ⟨g, s1, s2, d, 0⟩
  | .ieqli g m s1 d => packFields 4 0 ⟨g, s1, 0, d, modField m 1⟩
  | .ifir16 g s1 s2 d => packFields 93 0 ⟨g, s1, s2, d, 0⟩
  | .ifir8ii g s1 s2 d => packFields 92 0 ⟨g, s1, s2, d, 0⟩
  | .ifir8ui g s1 s2 d => packFields 91 0 ⟨g, s1, s2, d, 0⟩
  | .ifixieee g s1 d => packFields 121 0 ⟨g, s1, 0, d, 0⟩
  | .ifixieeeflags g s1 d => packFields 122 0 ⟨g, s1, 0, d, 0⟩
  | .ifixrz g s1 d => packFields 21 0 ⟨g, s1, 0, d, 0⟩
  | .ifixrzflags g s1 d => packFields 129 0 ⟨g, s1, 0, d, 0⟩
  | .iflip g s1 s2 d => packFields 77 0 ⟨g, s1, s2, d, 0⟩
  | .ifloat g s1 d => packFields 20 0 ⟨g, s1, 0, d, 0⟩
  | .ifloatflags g s1 d => packFields 130 0 ⟨g, s1, 0, d, 0⟩
  | .ifloatrz g s1 d => packFields 117 0 ⟨g, s1, 0, d, 0⟩
  | .ifloatrzflags g s1 d => packFields 118 0 ⟨g, s1, 0, d, 0⟩
  | .igeq g s1 s2 d => packFields 14 0 ⟨g, s1, s2, d, 0⟩
  | .igeqi g m s1 d => packFields 1 0 ⟨g, s1, 0, d, modField m 1⟩
  | .igtr g s1 s2 d => packFields 15 0 ⟨g, s1, s2, d, 0⟩
  | .igtri g m s1 d => packFields 0 0 ⟨g, s1, 0, d, modField m 1⟩
  | .iimm m d => packImm 191 0 d (BitVec.ofInt 32 m)
  | .ijmpf g s1 s2 => packFields 181 0 ⟨g, s1, s2, 0, 0⟩
  | .ijmpi g a => packImm 179 0 g a
  | .ijmpt g s1 s2 => packFields 177 0 ⟨g, s1, s2, 0, 0⟩
  | .ild16 g s1 d => packFields 6 1 ⟨g, s1, 0, d, 0⟩
  | .ild16d g m s1 d => packFields 6 0 ⟨g, s1, 0, d, modField m 2⟩
  | .ild16r g s1 s2 d => packFields 195 0 ⟨g, s1, s2, d, 0⟩
  | .ild16x g s1 s2 d => packFields 196 0 ⟨g, s1, s2, d, 0⟩
  | .ild8 g s1 d => packFields 192 1 ⟨g, s1, 0, d, 0⟩
  | .ild8d g m s1 d => packFields 192 0 ⟨g, s1, 0, d, modField m 1⟩
  | .ild8r g s1 s2 d => packFields 193 0 ⟨g, s1, s2, d, 0⟩
  | .ileq g s1 s2 d => packFields 14 1 ⟨g, s1, s2, d, 0⟩
  | .ileqi g m s1 d => packFields 42 0 ⟨g, s1, 0, d, modField m 1⟩
  | .iles g s1 s2 d => packFields 15 1 ⟨g, s1, s2, d, 0⟩
  | .ilesi g m s1 d => packFields 2 0 ⟨g, s1, 0, d, modField m 1⟩
  | .imax g s1 s2 d => packFields 24 0 ⟨g, s1, s2, d, 0⟩
  | .imin g s1 s2 d => packFields 23 0 ⟨g, s1, s2, d, 0⟩
  | .imul g s1 s2 d => packFields 27 0 ⟨g, s1, s2, d, 0⟩
  | .imulm g s1 s2 d => packFields 139 0 ⟨g, s1, s2, d, 0⟩
  | .ineg g s1 d => packFields 13 1 ⟨g, s1, 0, d, 0⟩
  | .ineq g s1 s2 d => packFields 39 0 ⟨g, s1, s2, d, 0⟩
  | .ineqi g m s1 d => packFields 3 0 ⟨g, s1, 0, d, modField m 1⟩
  | .inonzero g s1 s2 d => packFields 47 0 ⟨g, s1, s2, d, 0⟩
  | .isub g s1 s2 d => packFields 13 0 ⟨g, s1, s2, d, 0⟩
  | .isubi g m s1 d => packFields 32 0 ⟨g, s1, 0, d, modField m 1⟩
  | .izero g s1 s2 d => packFields 46 0 ⟨g, s1, s2, d, 0⟩
  | .jmpf g s1 s2 => packFields 180 0 ⟨g, s1, s2, 0, 0⟩
  | .jmpi g a => packImm 178 0 g a
  | .jmpt g s1 s2 => packFields 176 0 ⟨g, s1, s2, 0, 0⟩
  | .ld32 g s1 d => packFields 7 1 ⟨g, s1, 0, d, 0⟩
  | .ld32d g m s1 d => packFields 7 0 ⟨g, s1, 0, d, modField m 4⟩
  | .ld32r g s1 s2 d => packFields 200 0 ⟨g, s1, s2, d, 0⟩
  | .ld32x g s1 s2 d => packFields 201 0 ⟨g, s1, s2, d, 0⟩
  | .lsl g s1 s2 d => packFields 19 1 ⟨g, s1, s2, d, 0⟩
  | .lsli g m s1 d => packFields 11 1 ⟨g, s1, 0, d, modField m 1⟩
  | .lsr g s1 s2 d => packFields 96 0 ⟨g, s1, s2, d, 0⟩
  | .lsri g m s1 d => packFields 9 0 ⟨g, s1, 0, d, modField m 1⟩
  | .mergedual16lsb g s1 s2 d => packFields 103 0 ⟨g, s1, s2, d, 0⟩
  | .mergelsb g s1 s2 d => packFields 57 0 ⟨g, s1, s2, d, 0⟩
  | .mergemsb g s1 s2 d => packFields 58 0 ⟨g, s1, s2, d, 0⟩
  | .nop => packFields 0 31 ⟨0, 0, 0, 0, 0⟩
  | .pack16lsb g s1 s2 d => packFields 53 0 ⟨g, s1, s2, d, 0⟩
  | .pack16msb g s1 s2 d => packFields 54 0 ⟨g, s1, s2, d, 0⟩
  | .packbytes g s1 s2 d => packFields 52 0 ⟨g, s1, s2, d, 0⟩
  | .pref g s1 => packFields 209 1 ⟨g, s1, 0, 0, 0⟩
  | .pref16x g s1 s2 => packFields 211 0 ⟨g, s1, s2, 0, 0⟩
  | .pref32x g s1 s2 => packFields 212 0 ⟨g, s1, s2, 0, 0⟩
  | .prefd g m s1 => packFields 209 0 ⟨g, s1, 0, 0, modField m 4⟩
  | .prefr g s1 s2 => packFields 210 0 ⟨g, s1, s2, 0, 0⟩
  | .quadavg g s1 s2 d => packFields 73 0 ⟨g, s1, s2, d, 0⟩
  | .quadumax g s1 s2 d => packFields 81 0 ⟨g, s1, s2, d, 0⟩
  | .quadumin g s1 s2 d => packFields 80 0 ⟨g, s1, s2, d, 0⟩
  | .quadumulmsb g s1 s2 d => packFields 89 0 ⟨g, s1, s2, d, 0⟩
  | .rdstatus g m s1 d => packFields 203 0 ⟨g, s1, 0, d, modField m 4⟩
  | .rdtag g m s1 d => packFields 202 0 ⟨g, s1, 0, d, modField m 4⟩
  | .readdpc g d => packFields 156 0 ⟨g, 0, 0, d, 0⟩
  | .readpcsw g d => packFields 158 0 ⟨g, 0, 0, d, 0⟩
  | .readspc g d => packFields 157 0 ⟨g, 0, 0, d, 0⟩
  | .rol g s1 s2 d => packFields 97 0 ⟨g, s1, s2, d, 0⟩
  | .roli g m s1 d => packFields 98 0 ⟨g, s1, 0, d, modField m 1⟩
  | .sex16 g s1 d => packFields 51 0 ⟨g, s1, 0, d, 0⟩
  | .sex8 g s1 d => packFields 56 1 ⟨g, s1, 0, d, 0⟩
  | .st16 g s1 s2 => packFields 30 1 ⟨g, s1, s2, 0, 0⟩
  | .st16d g m s1 s2 => packFields 30 2 ⟨g, s1, s2, 0, modField m 2⟩
  | .st32 g s1 s2 => packFields 31 1 ⟨g, s1, s2, 0, 0⟩
  | .st32d g m s1 s2 => packFields 31 2 ⟨g, s1, s2, 0, modField m 4⟩
  | .st8 g s1 s2 => packFields 29 1 ⟨g, s1, s2, 0, 0⟩
  | .st8d g m s1 s2 => packFields 29 2 ⟨g, s1, s2, 0, modField m 1⟩
  | .ubytesel g s1 s2 d => packFields 55 0 ⟨g, s1, s2, d, 0⟩
  | .uclipi g s1 s2 d => packFields 75 0 ⟨g, s1, s2, d, 0⟩
  | .uclipu g s1 s2 d => packFields 76 0 ⟨g, s1, s2, d, 0⟩
  | .ueql g s1 s2 d => packFields 37 1 ⟨g, s1, s2, d, 0⟩
  | .ueqli g m s1 d => packFields 38 0 ⟨g, s1, 0, d, modField m 1⟩
  | .ufir16 g s1 s2 d => packFields 94 0 ⟨g, s1, s2, d, 0⟩
  | .ufir8uu g s1 s2 d => packFields 90 0 ⟨g, s1, s2, d, 0⟩
  | .ufixieee g s1 d => packFields 123 0 ⟨g, s1, 0, d, 0⟩
  | .ufixieeeflags g s1 d => packFields 124 0 ⟨g, s1, 0, d, 0⟩
  | .ufixrz g s1 d => packFields 125 0 ⟨g, s1, 0, d, 0⟩
  | .ufixrzflags g s1 d => packFields 126 0 ⟨g, s1, 0, d, 0⟩
  | .ufloat g s1 d => packFields 127 0 ⟨g, s1, 0, d, 0⟩
  | .ufloatflags g s1 d => packFields 128 0 ⟨g, s1, 0, d, 0⟩
  | .ufloatrz g s1 d => packFields 119 0 ⟨g, s1, 0, d, 0⟩
  | .ufloatrzflags g s1 d => packFields 120 0 ⟨g, s1, 0, d, 0⟩
  | .ugeq g s1 s2 d => packFields 35 0 ⟨g, s1, s2, d, 0⟩
  | .ugeqi g m s1 d => packFields 36 0 ⟨g, s1, 0, d, modField m 1⟩
  | .ugtr g s1 s2 d => packFields 33 0 ⟨g, s1, s2, d, 0⟩
  | .ugtri g m s1 d => packFields 34 0 ⟨g, s1, 0, d, modField m 1⟩
  | .uimm m d => packImm 191 1 d (BitVec.ofInt 32 m)
  | .uld16 g s1 d => packFields 197 1 ⟨g, s1, 0, d, 0⟩
  | .uld16d g m s1 d => packFields 197 0 ⟨g, s1, 0, d, modField m 2⟩
  | .uld16r g s1 s2 d => packFields 198 0 ⟨g, s1, s2, d, 0⟩
  | .uld16x g s1 s2 d => packFields 199 0 ⟨g, s1, s2, d, 0⟩
  | .uld8 g s1 d => packFields 8 1 ⟨g, s1, 0, d, 0⟩
  | .uld8d g m s1 d => packFields 8 0 ⟨g, s1, 0, d, modField m 1⟩
  | .uld8r g s1 s2 d => packFields 194 0 ⟨g, s1, s2, d, 0⟩
  | .uleq g s1 s2 d => packFields 35 1 ⟨g, s1, s2, d, 0⟩
  | .uleqi g m s1 d => packFields 43 0 ⟨g, s1, 0, d, modField m 1⟩
  | .ules g s1 s2 d => packFields 33 2 ⟨g, s1, s2, d, 0⟩
  | .ulesi g m s1 d => packFields 41 0 ⟨g, s1, 0, d, modField m 1⟩
  | .ume8ii g s1 s2 d => packFields 64 0 ⟨g, s1, s2, d, 0⟩
  | .ume8uu g s1 s2 d => packFields 26 0 ⟨g, s1, s2, d, 0⟩
  | .umin g s1 s2 d => packFields 76 1 ⟨g, s1, s2, d, 0⟩
  | .umul g s1 s2 d => packFields 138 0 ⟨g, s1, s2, d, 0⟩
  | .umulm g s1 s2 d => packFields 140 0 ⟨g, s1, s2, d, 0⟩
  | .uneq g s1 s2 d => packFields 39 1 ⟨g, s1, s2, d, 0⟩
  | .uneqi g m s1 d => packFields 40 0 ⟨g, s1, 0, d, modField m 1⟩
  | .writedpc g s1 => packFields 160 0 ⟨g, s1, 0, 0, 0⟩
  | .writepcsw g s1 s2 => packFields 161 0 ⟨g, s1, s2, 0, 0⟩
  | .writespc g s1 => packFields 159 0 ⟨g, s1, 0, 0, 0⟩
  | .zex16 g s1 d => packFields 53 1 ⟨g, s1, 0, d, 0⟩
  | .zex8 g s1 d => packFields 55 1 ⟨g, s1, 0, d, 0⟩

/-- The image of an instruction (R180, R182; log 1). -/
def encode (b : Bundle) : List Byte :=
  opBytes (encodeOp b.slot1) ++ opBytes (encodeOp b.slot2) ++ opBytes (encodeOp b.slot3) ++
    opBytes (encodeOp b.slot4) ++ opBytes (encodeOp b.slot5) ++
    [b.length.extractLsb' 0 8, b.length.extractLsb' 8 8]

/-- The instruction the decoder reads from an operation record whose bits are `w`, bit 0 the operation code's least
significant bit. The spec's table gives a row no bits (R181), so `nbits` bounds nothing: the bits above those given are
zero. -/
def decodeTableWord (_nbits w : Nat) : Option Instr :=
  match decodeOp (BitVec.ofNat 48 w) with
  | .ok i => some i
  | .error _ => none

end Sys2Proof
end

