-- ==== Sys2Proof/Machine/Fetch.lean ====
section
/-! DEFINITION. Fetching and decoding an instruction (spec/20_memory.md R105, R160, R162; spec/30_encoding.md R180, R182,
R185; spec/49_cache_pack.md R552). -/
namespace Sys2Proof.Machine

/-- The instruction's bytes all lie in the DRAM aperture (R160, U12). -/
def State.fetchable (s : State) : Bool :=
  s.inDram s.pc && s.inDram (s.pc + BitVec.ofNat 32 (imageBytes - 1)) && decide (s.pc.toNat + imageBytes ≤ 2 ^ 32)

/-- Both blocks of the instruction at `pc` brought into the cache `c`, and how many misses that were. -/
def ICache.ensureImage (c : ICache) (m : Mem) (pc : Word) (free : Nat) : ICache × Nat :=
  let p := c.ensure m pc (Config.freeNat free)
  let q := p.1.ensure m (pc + BitVec.ofNat 32 (imageBytes - 1)) (Config.freeNat (free + 1))
  (q.1, p.2.toNat + q.2.toNat)

/-- The bytes of the instruction at `pc`, read from the cache `c`. -/
def ICache.image (c : ICache) (pc : Word) : List Byte :=
  (List.range imageBytes).map fun i => c.byte (pc + BitVec.ofNat 32 i)

/-- The cache that the next instruction is fetched from: the oldest of those before recent iclr operations, else the
current one (R552). -/
def State.fetchCache (s : State) : ICache :=
  match s.icacheOld with
  | o :: _ => o.cache
  | [] => s.icache

/-- The state with the cache that the fetch used replaced by `c`; an old cache serves one instruction less. -/
def State.fetched (s : State) (c : ICache) : State :=
  match s.icacheOld with
  | o :: os => { s with icacheOld := if o.left ≤ 1 then os else ⟨c, o.left - 1⟩ :: os }
  | [] => { s with icache := c }

/-- The fetch of the instruction at PC (R160): through the instruction cache, from SDRAM on a miss; the two instructions
after an iclr come from the cache as it was (R552). Each block that misses is a cache event 1 (R652). -/
def State.fetch (s : State) : List Byte × State :=
  let p := s.fetchCache.ensureImage s.mem s.pc s.freeCount
  (p.1.image s.pc, (s.drawn.drawn.fetched p.1).countEvent 1 p.2)

/-- The instruction that a list of bytes is, refused where it is none or is not well formed (R185, R188, R191). -/
def readBundle (bytes : List Byte) : Res Bundle :=
  match decode bytes with
  | .error _ => .error .noInstruction
  | .ok (b, _) =>
    if !b.opsOk then .error .illFormedOperation
    else if !b.slotsOk then .error .illegalSlot
    else if !b.portsOk then .error .portConflict
    else .ok b

end Sys2Proof.Machine
end

