-- ==== Sys2Proof/Machine/Pipeline.lean ====
section
/-! DEFINITION. What the end of an instruction does: write-back, the updates of PCSW, jumps whose delay ends, special
register writes (spec/10_state.md R32 to R35, R45, R48; spec/48_control_special.md R510 to R515, R539). -/
namespace Sys2Proof.Machine

/-- No element occurs twice. -/
def distinct : List Nat → Bool
  | [] => true
  | x :: xs => !xs.contains x && distinct xs

/-! ### Write-back (R32, R34, R35) -/

/-- The results that reach write-back at the end of this instruction. -/
def State.dueResults (s : State) : List Result := s.results.filter fun r => decide (r.left ≤ 1)

/-- The results still on their way after this instruction. -/
def laterResults (rs : List Result) : List Result :=
  (rs.filter fun r => decide (1 < r.left)).map fun r => { r with left := r.left - 1 }

/-- Write results to the register file. -/
def State.writeResults (s : State) : List Result → State
  | [] => s
  | r :: rs => (s.setReg r.dest r.value).writeResults rs

/-- Drop `k` of the results, each one a free choice (U2; log 14). -/
def dropFree (free : Nat) : Nat → List Result → List Result
  | 0, rs => rs
  | k + 1, rs => dropFree (free + 1) k (rs.eraseIdx (Config.freeNat free % rs.length))

/-- The write-back at the end of an instruction: the due results reach their registers, at most five of them (R34); the
flags that the write-back sets. Refused where two results reach one register (R35, D4). A result that is dropped keeps its
flag update, which `State.updatePcsw` makes all the same (log 14). -/
def State.writeBack (s : State) : Res (State × Word) :=
  let due := s.dueResults
  let s1 := { s with results := laterResults s.results }
  let excess := due.length - Config.writeBackLimit
  if distinct (due.map fun r => r.dest.toNat) then
    if excess = 0 then .ok (s1.writeResults due, 0)
    else .ok ({ s1 with freeCount := s1.freeCount + excess }.writeResults (dropFree s1.freeCount excess due), flagWBE)
  else .error .writeCollision

/-! ### PCSW (R42, R45, R365, R539) -/

/-- The flags that the hardware sets at the end of this instruction. -/
def dueFlags (fs : List FlagUpdate) : Word :=
  fs.foldl (fun w f => if f.left ≤ 1 then w ||| f.bits else w) 0

/-- The flag updates still on their way after this instruction. -/
def laterFlags (fs : List FlagUpdate) : List FlagUpdate :=
  (fs.filter fun f => decide (1 < f.left)).map fun f => { f with left := f.left - 1 }

/-- The PCSW updates at the end of an instruction (R45): the software write, then the bits `hw` and the due flags that
the hardware sets; the due flags of a result that the five-result limit has dropped are set, too (log 14). Where the
software changes bits the event logic reads, the word without the software write stays
visible to it for a while (R539, U16; log 20). -/
def State.updatePcsw (s : State) (hw : Word) : State :=
  let set := hw ||| dueFlags s.flagUpdates
  let soft := match s.pcswWrite with
    | some (v, m) => maskedWrite s.pcsw v m
    | none => s.pcsw
  let aged := s.oldPcsw.map fun p => (p.1 ||| set, p.2)
  { s with
    pcsw := soft ||| set
    flagUpdates := laterFlags s.flagUpdates
    pcswWrite := none
    oldPcsw := if (soft ^^^ s.pcsw) &&& eventMask = 0 then aged
      else (s.pcsw ||| set, Config.oldPcswDecisions) :: aged }

/-- The older PCSW words after one more instruction. -/
def agePcsw (ps : List (Word × Nat)) : List (Word × Nat) :=
  (ps.filter fun p => decide (1 < p.2)).map fun p => (p.1, p.2 - 1)

/-! ### Jumps (R510, R512, R513) -/

/-- The redirects whose delay goes on after this instruction. -/
def laterRedirects (rs : List Redirect) : List Redirect :=
  (rs.filter fun r => decide (r.left ≠ 0)).map fun r => { r with left := r.left - 1 }

/-- The jumps at the end of an instruction of length `len`: the one whose delay ends goes to its target or to an event
handler, else the next instruction in memory follows (R510). Refused where two jumps of one instruction succeeded
(R512, U15). -/
def State.redirect (s : State) (len : BitVec 16) : Res State :=
  let s1 := { s with redirects := laterRedirects s.redirects }
  if distinct (s.redirects.map fun r => r.left) then
    match s.redirects.find? fun r => decide (r.left = 0) with
    | some r => .ok (s1.completeJump r)
    | none => .ok { s1 with pc := s1.pc + len.setWidth 32 }
  else .error .twoJumps

/-- The software writes of DPC and SPC, which win over the jump's (R48). -/
def State.writeSpecials (s : State) : State :=
  { s with
    dpc := s.dpcWrite.getD s.dpc
    spc := s.spcWrite.getD s.spc
    dpcWrite := none
    spcWrite := none }

/-! ### The end of an instruction -/

/-- The counters that every instruction moves on: the older PCSW words, the ftough recovery (R376), the way into partial
powerdown (R661), the memory of an iclr (R163); the instruction's scratch is cleared. -/
def State.advance (s : State) : State :=
  { s with
    oldPcsw := agePcsw s.oldPcsw
    ftoughBusy := s.ftoughBusy - 1
    iclrPrev := s.issue.iclr
    issue := IssueLog.empty
    run := if s.sleepIn = some 0 then .sleeping else s.run
    sleepIn := match s.sleepIn with
      | some (n + 1) => some n
      | _ => none }

/-- The end of an instruction of length `len` at address `iaddr`: its clock cycle, write-back, PCSW, jumps, special
registers. The clock cycle comes after the instruction's stores: the instruction and its loads and stores are compared
with the breakpoint registers, and its timers count, as the instruction itself has stored them (log 45). -/
def State.retire (s : State) (i : CycleInputs) (iaddr : Word) (len : BitVec 16) : Res State :=
  match (s.observed.clockCycle i (s.instBreak iaddr) true).writeBack with
  | .error e => .error e
  | .ok (s1, hw) =>
    match (s1.updatePcsw hw).redirect len with
    | .error e => .error e
    | .ok s2 => .ok s2.writeSpecials.advance

end Sys2Proof.Machine
end

