-- ==== Sys2Proof/Machine/Issue.lean ====
section
/-! DEFINITION. One instruction: fetch, issue of its five operations, end of the instruction; and the clock cycles in
which none is issued (spec/10_state.md R30, R31; spec/20_memory.md R136; spec/70_reset_and_hazards.md R703). -/
namespace Sys2Proof.Machine

/-- Issue operations one after the other. Results, flags and jumps are delayed, so each reads the registers as they were
before the instruction (R31). -/
def issueOps : List Instr → State → Out
  | [], s => .next s
  | i :: is, s =>
    match exec i s with
    | .next t => issueOps is t
    | r => r

/-- Two special memory operations have been made in this instruction (R136): loads and stores alone, for dcb and dinvalid
stand beside no other access (R716, R555). An iclr is not counted as one: it comes before the loads and stores of its
instruction (log 33). -/
def State.twoSpecial (s : State) : Bool := decide (2 ≤ (s.issue.accesses.filter fun x => x.special).length)

/-- Issue the five operations of an instruction. Two special memory operations are made in either order (R136, U8); where
the order of the slots is refused, the other is not tried (log 33). -/
def issueBundle (b : Bundle) (s : State) : Out :=
  match issueOps [b.slot1, b.slot2, b.slot3] s with
  | .next t =>
    match issueOps [b.slot4, b.slot5] t with
    | .next u =>
      if u.twoSpecial then
        let d := t.drawBool
        issueOps (if d.1 then [b.slot4, b.slot5] else [b.slot5, b.slot4]) d.2
      else .next u
    | r => r
  | r => r

/-- Issue the instruction `b` and end it. -/
def runBundle (i : CycleInputs) (b : Bundle) (s : State) : Out :=
  match issueBundle b s with
  | .next t => (t.retire i s.pc b.length).run .next
  | r => r

/-- One instruction of a running core. Refused where the apertures are illegal (U29), PC is
outside DRAM (U12) or no well-formed instruction stands there. -/
def runInstruction (i : CycleInputs) (s : State) : Out :=
  if !s.aperturesLegal then .refused .aperturesIllegal
  else if !s.fetchable then .refused .pcOutsideDram
  else
    match readBundle s.fetch.1 with
    | .error e => .refused e
    | .ok b => runBundle i b s.fetch.2

/-- A clock cycle that does `running` with a running core, and else is an idle one (R703). -/
def clockStep (i : CycleInputs) (running : State → Out) (s : State) : Out :=
  if s.pwrdwn then .next (s.offCycle i)
  else
    match s.run with
    | .running => running s
    | .sleeping => .next (s.sleepCycle i)
    | .stopped => .next (s.stoppedCycle i)

/-- A clock cycle in which a running core issues an instruction (R30). -/
def cycleStep (i : CycleInputs) (s : State) : Out := clockStep i (runInstruction i) s

/-- A clock cycle in which a running core is stalled (R30). -/
def stallStep (i : CycleInputs) (s : State) : Out := clockStep i (fun s => .next (s.stallCycle i)) s

/-- The inputs of a cycle for which the environment gives none: request lines as they are (log 17). -/
def State.quietInputs (s : State) : CycleInputs := ⟨s.irqLines, 0, 0⟩

/-- The image of an instruction of length 32 with the record `w` in slot `k` and nops in the others. -/
def imageWith (k : Nat) (w : OpWord) : List Byte :=
  ([1, 2, 3, 4, 5].flatMap fun j => opBytes (if j = k then w else encodeOp .nop)) ++ [32, 0]

/-- The first slot in which the operation of a record may stand; slot 1 for a record that is no operation. -/
def homeSlot (w : OpWord) : Nat :=
  match decodeOp w with
  | .ok i => i.unit.slots.headD 1
  | .error _ => 1

end Sys2Proof.Machine
end

