-- ==== Sys2Proof/Machine/Step.lean ====
section
/-! DEFINITION. The step of the machine: the environment's next event, or one instruction (log 17). -/
namespace Sys2Proof.Machine

/-- One step. The head of the inbox is consumed: with `cycle` the core issues one instruction, with `stall` it spends a
clock cycle without one, any other event acts alone. With an empty inbox the core goes on undisturbed (log 17, 18). -/
def step (s : State) : Host.Outcome State Fault Refusal :=
  match s.inbox with
  | [] => cycleStep s.quietInputs s
  | .cycle i :: es => cycleStep i { s with inbox := es }
  | .stall i :: es => stallStep i { s with inbox := es }
  | e :: es => (State.environment { s with inbox := es } e).run .next

/-- The state in which the next step fetches the operation record `w` at PC: the image lies in SDRAM, the core runs, no
event comes before it and the instruction cache holds nothing older (log 2). -/
def State.withFetchWord (s : State) (_nbits w : Nat) : State :=
  let r : OpWord := BitVec.ofNat 48 w
  { s with
    mem := s.mem.writeList s.pc (imageWith (homeSlot r) r)
    icache := State.reset.icache
    icacheOld := []
    run := .running
    pwrdwn := false
    inbox := [] }

end Sys2Proof.Machine
end

