-- ==== Sys2Proof/Safety.lean ====
section
/-! DEFINITION. What claims call a good state, and the words they use: what an operation delivers, what it leaves alone,
the forms of the memory operations. -/
namespace Sys2Proof.Machine

/-! ### The invariant -/

/-- r0 holds 0 and r1 holds 1 (spec/10_state.md R21). -/
def State.constantsOk (s : State) : Bool := decide (s.regs[0] = 0) && decide (s.regs[1] = 1)

/-- The memory has its canonical form. -/
def State.memOk (s : State) : Bool := s.mem.wf

/-- The aperture registers keep their alignment: 64 KB, and 64 bytes for TM32_START_ADDR (R54 to R56). -/
def State.alignedOk (s : State) : Bool :=
  decide (s.dramLo &&& 0xFFFF = 0) && decide (s.dramHi &&& 0xFFFF = 0) && decide (s.dramClimit &&& 0xFFFF = 0)
    && decide (s.apert1Lo &&& 0xFFFF = 0) && decide (s.apert1Hi &&& 0xFFFF = 0)
    && decide (s.startAddr &&& 0x3F = 0)

/-- Every result on its way has a destination that a program may name (R21, R189). -/
def State.resultsOk (s : State) : Bool := s.results.all fun r => decide (r.dest ≠ 0) && decide (r.dest ≠ 1)

/-- At most three instructions separate any pending jump from its target, and no two jumps share the instruction in
which they end (R510, R512). -/
def State.redirectsOk (s : State) : Bool :=
  s.redirects.all (fun r => decide (r.left < Config.branchDelay)) && distinct (s.redirects.map fun r => r.left)

/-- No operation of an instruction is under way. -/
def State.scratchOk (s : State) : Bool := decide (s.issue.accesses = []) && !s.issue.iclr

/-- At most two fetches of the data cache are outstanding (R156, R157). -/
def State.fetchesOk (s : State) : Bool := decide (s.fetches.length ≤ 2)

/-- No tag is held by two valid elements of a set of the data cache (R142). -/
def State.tagsOk (s : State) : Prop :=
  ∀ (k : Fin 32) (e e' : Fin 8), s.dcache[k].lines[e].valid = true → s.dcache[k].lines[e'].valid = true →
    s.dcache[k].lines[e].tag = s.dcache[k].lines[e'].tag → e = e'

/-- The invariant of the machine between two steps. -/
def State.Inv (s : State) : Prop :=
  s.constantsOk = true ∧ s.memOk = true ∧ s.alignedOk = true ∧ s.resultsOk = true ∧ s.redirectsOk = true
    ∧ s.scratchOk = true ∧ s.fetchesOk = true ∧ s.tagsOk

/-- The values that the spec gives for reset (R80, R26, R147, R702). -/
structure State.ResetValues (s : State) : Prop where
  r0 : s.reg 0 = 0
  r1 : s.reg 1 = 1
  pcsw : s.pcsw = 0x800
  ccMaster : s.ccMaster = 0
  ccSlave : s.ccSlave = 0
  results : s.results = []
  redirects : s.redirects = []
  ctlPllEn : s.ctlPllEn = 0
  ctlRatio : s.ctlRatio = 0x09
  dramLo : s.dramLo = 0x00000000
  dramHi : s.dramHi = 0x01000000
  dramClimit : s.dramClimit = 0x00FF0000
  apert1Lo : s.apert1Lo = 0x1C000000
  apert1Hi : s.apert1Hi = 0x20000000
  startAddr : s.startAddr = 0x00000000
  isetting : ∀ k : Fin 4, s.isetting[k] = 0
  pend : s.pend = 0
  imask : s.imask = 0
  tctl : ∀ k : Fin 4, s.timers[k].ctl = 0
  bictl : s.bictl = 0
  bdctl : s.bdctl = 0
  dcLock : s.dcLockCtl = 0
  icLock : s.icLockCtl = 0
  sem : s.sem = 0
  dcache : ∀ (k : Fin 32) (e : Fin 8), s.dcache[k].lines[e].valid = false ∧ s.dcache[k].lines[e].dirty = false
  dlru : ∀ k : Fin 32, s.dcache[k].lru = ⟨true, true, false, true, false, false, 0⟩
  icache : ∀ (k : Fin 64) (e : Fin 8), s.icache[k].lines[e].valid = false
  ilru : ∀ k : Fin 64, s.icache[k].lru = ⟨true, true, false, true, false, false, 0⟩
  stopped : s.run = .stopped

/-! ### The data cache and memory -/

/-- The cache and what is below it agree: no tag twice in a set, and every valid clean block of the data cache holds
what SDRAM and the copyback buffers hold. Another master's write to SDRAM ends it; software then restores it (R139). -/
def State.Coherent (s : State) : Prop :=
  s.tagsOk ∧ ∀ (k : Fin 32) (e : Fin 8), s.dcache[k].lines[e].valid = true → s.dcache[k].lines[e].dirty = false →
    s.dcache[k].lines[e].data = s.lowerBlock (dBlock k s.dcache[k].lines[e].tag)

/-- Every byte reads as before. -/
def State.SameBytes (s t : State) : Prop := ∀ b : Word, t.readByte b = s.readByte b

/-! ### Clock cycles -/

/-- What a clock cycle with inputs `i` does to the request lines, the timers and the pending flags (R621, R642, R643):
every timer advances by the events of its source, and one that wraps makes its request line pulse; a leading edge on a
line, a timer's for sources 5 to 8 and else a pin's, sets the pending flag of an edge-triggered source. `brk`: the
instruction makes an instruction breakpoint event. -/
structure State.Clocked (s t : State) (i : CycleInputs) (brk : Bool) : Prop where
  lines : t.irqLines = i.irq
  timers : ∀ k : Fin 4, t.timers[k] = { (s.timers[k].tick (s.sourceEvents i brk)).1 with pulse := t.timers[k].pulse }
  pulses : ∀ k : Fin 4, (s.timers[k].tick (s.sourceEvents i brk)).2 = true → 0 < t.timers[k].pulse
  pend : ∀ n : Fin 32, t.pend.getLsbD n = (s.pend.getLsbD n || !s.levelSensitive n &&
    (if 5 ≤ n.val ∧ n.val ≤ 8 then (s.timers[Fin.ofNat 4 (n.val - 5)].tick (s.sourceEvents i brk)).2
      else i.irq.getLsbD n && !s.irqLines.getLsbD n))

/-! ### Breakpoints and cache events -/

/-- `t` has logged one more access than `s`: a store or load at the computed address `a` with the data `v`, as a data
breakpoint compares them (R651, D22). -/
def Logged (s t : State) (store : Bool) (a v : Word) : Prop :=
  ∃ x : Access, t.issue = { s.issue with accesses := x :: s.issue.accesses } ∧ x.store = store ∧ x.daddr = a ∧ x.data = v

/-- The access `x` is a data breakpoint event (R651), where the value mask is not 0 or the value not compared. The places
of the fields of BDCTL are log 8. -/
def State.isDataBreak (s : State) (x : Access) : Bool :=
  let addr := if s.bdctl.getLsbD 2 then decide (x.daddr ≤ s.bdataALow ∨ s.bdataAHigh ≤ x.daddr)
    else decide (s.bdataALow ≤ x.daddr ∧ x.daddr ≤ s.bdataAHigh)
  let value := decide (x.data &&& s.bdataMask = s.bdataVal &&& s.bdataMask) != s.bdctl.getLsbD 3
  s.bdctl.getLsbD (if x.store then 5 else 4) &&
    match (s.bdctl.extractLsb' 0 2).toNat with
    | 0 => false
    | 1 => addr
    | 2 => value
    | _ => addr && value

/-- The cache event with encoding `e` of Table 3-11 is counted in a clock cycle (R652): one that the model computes where
one is waiting, another where the environment gives it; 0, 14 and 15 never (log 34). -/
def State.countsEvent (s : State) (i : CycleInputs) (e : BitVec 4) : Prop :=
  e.toNat ∈ [1, 4, 5, 7, 13] ∧ 0 < s.cacheEvents[e.toFin]
    ∨ e.toNat ∈ [2, 3, 6, 8, 9, 10, 11, 12] ∧ i.cacheEvents.getLsbD e.toNat = true

/-! ### Floating-point values -/

/-- The magnitude of a number that is no NaN, in units of 2^-149 (R360): a denormalized number counts as zero (R361), and
an infinity lies above all others. -/
def fpMagnitude (a : Word) : Nat :=
  let e := (a.extractLsb' 23 8).toNat
  if e = 0 then 0 else (2 ^ 23 + (a.extractLsb' 0 23).toNat) * 2 ^ (e - 1)

/-- The value of a number that is no NaN, in units of 2^-149. -/
def fpScaled (a : Word) : Int := if a.getLsbD 31 then -(fpMagnitude a : Int) else fpMagnitude a

/-- `q` is the quotient `n / d` rounded to an integer in a mode (R38, D6, log 44): one of the integers next to it; in mode 0 the
nearest, of two the even one; in mode 1 the one nearer zero; in modes 2 and 3 the one above and below, for a negative
number (`neg`) of this magnitude the other. -/
def Rounded (mode : BitVec 2) (neg : Bool) (n d q : Nat) : Prop :=
  q * d < n + d ∧ n < q * d + d ∧
    match mode.toNat with
    | 0 => 2 * (q * d) ≤ 2 * n + d ∧ 2 * n ≤ 2 * (q * d) + d
      ∧ (2 * (q * d) = 2 * n + d ∨ 2 * n = 2 * (q * d) + d → q % 2 = 0)
    | 1 => q * d ≤ n
    | 2 => if neg then q * d ≤ n else n ≤ q * d
    | _ => if neg then n ≤ q * d else q * d ≤ n

/-- `r` is the single, with its flags but IFZ, of the exact magnitude `n / d` in units of 2^-149, not zero (R362, R364).
Below 2^-126 it is rounded to a multiple of the unit: to zero, with UNF and INX; to a denormalized number, which is
flushed to +0 (D15) with OFZ, UNF and INX; or up to 2^-126, with INX (log 22). Else it is rounded to 24 significant bits,
with INX where that is inexact; above the largest finite number it overflows, with OVF and INX, to the infinity or,
where the mode rounds inwards, to the largest finite number. -/
def RoundsTo (mode : BitVec 2) (neg : Bool) (n d : Nat) (r : FpOut) : Prop :=
  let sign : Word := if neg then 0x80000000 else 0
  (n < 2 ^ 23 * d → ∃ q, Rounded mode neg n d q ∧
    r = if q = 0 then ⟨0, 0x06⟩ else if q < 2 ^ 23 then ⟨0, 0x46⟩ else ⟨sign ||| 0x00800000, 0x02⟩)
  ∧ ∀ k, 2 ^ (23 + k) * d ≤ n → n < 2 ^ (24 + k) * d → ∃ q, Rounded mode neg n (d * 2 ^ k) q ∧
    if q * 2 ^ k < 2 ^ 277 then
      fpMagnitude r.value = q * 2 ^ k ∧ r.value.getLsbD 31 = neg ∧ r.flags = if q * (d * 2 ^ k) = n then 0 else 0x02
    else
      r.flags = 0x0A ∧ r.value = sign |||
        if mode = 0 ∨ mode = 2 ∧ neg = false ∨ mode = 3 ∧ neg = true then 0x7F800000 else 0x7F7FFFFF

/-- The flags but IFZ. -/
def FpOut.noIfz (r : FpOut) : FpOut := ⟨r.value, r.flags &&& ~~~0x20⟩

/-- `r`, without IFZ, is the sum of two operands that are no NaN (R363, R364). -/
def SumOf (mode : BitVec 2) (a b : Word) (r : FpOut) : Prop :=
  if isInf a then r = if isInf b ∧ a ≠ b then ⟨0xFFFFFFFF, 0x10⟩ else ⟨a, 0⟩
  else if isInf b then r = ⟨b, 0⟩
  else if fpScaled a + fpScaled b = 0 then
    r = ⟨if a.getLsbD 31 = b.getLsbD 31 then a &&& 0x80000000 else if mode = 3 then 0x80000000 else 0, 0⟩
  else RoundsTo mode (decide (fpScaled a + fpScaled b < 0)) (fpScaled a + fpScaled b).natAbs 1 r

/-- `r`, without IFZ, is the product of two operands that are no NaN (R363, R364). -/
def ProductOf (mode : BitVec 2) (a b : Word) (r : FpOut) : Prop :=
  let neg := a.getLsbD 31 != b.getLsbD 31
  let sign : Word := if neg then 0x80000000 else 0
  if isInf a ∨ isInf b then
    r = if fpMagnitude a = 0 ∨ fpMagnitude b = 0 then ⟨0xFFFFFFFF, 0x10⟩ else ⟨sign ||| 0x7F800000, 0⟩
  else if fpMagnitude a * fpMagnitude b = 0 then r = ⟨sign, 0⟩
  else RoundsTo mode neg (fpMagnitude a * fpMagnitude b) (2 ^ 149) r

/-- `r`, without IFZ, is the quotient of two operands that are no NaN (R363, R364). -/
def QuotientOf (mode : BitVec 2) (a b : Word) (r : FpOut) : Prop :=
  let neg := a.getLsbD 31 != b.getLsbD 31
  let sign : Word := if neg then 0x80000000 else 0
  if isInf a then r = if isInf b then ⟨0xFFFFFFFF, 0x10⟩ else ⟨sign ||| 0x7F800000, 0⟩
  else if isInf b then r = ⟨sign, 0⟩
  else if fpMagnitude b = 0 then r = if fpMagnitude a = 0 then ⟨0xFFFFFFFF, 0x10⟩ else ⟨sign ||| 0x7F800000, 0x01⟩
  else if fpMagnitude a = 0 then r = ⟨sign, 0⟩
  else RoundsTo mode neg (fpMagnitude a * 2 ^ 149) (fpMagnitude b) r

/-- `r`, without IFZ, is the square root of an operand that is no NaN (R363, R364): the root of a positive number, which is
never denormalized, lies within one unit `u` of the last place of the result, on the side that the mode says. -/
def RootOf (mode : BitVec 2) (a : Word) (r : FpOut) : Prop :=
  if fpMagnitude a = 0 then r = ⟨a &&& 0x80000000, 0⟩
  else if a.getLsbD 31 then r = ⟨0xFFFFFFFF, 0x10⟩
  else if isInf a then r = ⟨a, 0⟩
  else
    let v := fpMagnitude r.value
    let u := 2 ^ ((r.value.extractLsb' 23 8).toNat - 1)
    let x := fpMagnitude a * 2 ^ 149
    r.value.getLsbD 31 = false ∧ 0 < v ∧ isInf r.value = false ∧ r.flags = (if v * v = x then 0 else 0x02)
    ∧ match mode.toNat with
      | 0 => (2 * v - u) * (2 * v - u) ≤ 4 * x ∧ 4 * x ≤ (2 * v + u) * (2 * v + u)
      | 2 => (v - u) * (v - u) < x ∧ x ≤ v * v
      | _ => v * v ≤ x ∧ x < (v + u) * (v + u)

/-- `r` is the conversion of the number `a`, no NaN, to an integer between `lo` and `hi` (R391): 0 with IFZ for a
denormalized number; else the rounded value, with INX where that is inexact, or the nearer end of the range, with INV,
where it lies beyond. -/
def FixesTo (mode : BitVec 2) (lo hi : Int) (a : Word) (r : FpOut) : Prop :=
  if a.extractLsb' 23 8 = 0 ∧ a.extractLsb' 0 23 ≠ 0 then r = ⟨0, 0x20⟩
  else ∃ q, Rounded mode (a.getLsbD 31) (fpMagnitude a) (2 ^ 149) q ∧
    let v : Int := if a.getLsbD 31 then -(q : Int) else q
    r = if hi < v then ⟨BitVec.ofInt 32 hi, 0x10⟩ else if v < lo then ⟨BitVec.ofInt 32 lo, 0x10⟩
      else ⟨BitVec.ofInt 32 v, if q * 2 ^ 149 = fpMagnitude a then 0 else 0x02⟩

/-! ### What an operation leaves alone -/

/-- What no operation changes when it is issued: the general registers, PC, PCSW, DPC, SPC, CCCOUNT (all written at the
end of an instruction, R31), the registers that are read-only for the core (R52) and the run state. -/
structure State.SameCore (s t : State) : Prop where
  regs : t.regs = s.regs
  pc : t.pc = s.pc
  pcsw : t.pcsw = s.pcsw
  dpc : t.dpc = s.dpc
  spc : t.spc = s.spc
  ccMaster : t.ccMaster = s.ccMaster
  ccSlave : t.ccSlave = s.ccSlave
  oldPcsw : t.oldPcsw = s.oldPcsw
  iclrPrev : t.iclrPrev = s.iclrPrev
  ctlPllEn : t.ctlPllEn = s.ctlPllEn
  ctlRatio : t.ctlRatio = s.ctlRatio
  dramLo : t.dramLo = s.dramLo
  dramHi : t.dramHi = s.dramHi
  dramClimit : t.dramClimit = s.dramClimit
  apert1Lo : t.apert1Lo = s.apert1Lo
  apert1Hi : t.apert1Hi = s.apert1Hi
  startAddr : t.startAddr = s.startAddr
  irqLines : t.irqLines = s.irqLines
  mmioBase : t.mmioBase = s.mmioBase
  run : t.run = s.run
  pwrdwn : t.pwrdwn = s.pwrdwn
  pwrdwnAck : t.pwrdwnAck = s.pwrdwnAck
  piReply : t.piReply = s.piReply
  inbox : t.inbox = s.inbox

/-- `t` differs from `s` at most in the results and PCSW bits on their way, the data cache, its copyback buffers and
outstanding fetches, the cache events to be counted, the instruction's scratch and the index of the next free value: no
register, no special register, no MMIO register, no byte of SDRAM. -/
def State.SameButCache (s t : State) : Prop :=
  t = { s with
    results := t.results
    flagUpdates := t.flagUpdates
    dcache := t.dcache
    copyback := t.copyback
    fetches := t.fetches
    cacheEvents := t.cacheEvents
    issue := t.issue
    freeCount := t.freeCount }

/-! ### What an operation delivers -/

/-- The operation completes: where bit 0 of the guard `g` is 1, the value `v` is on its way to `d` with latency `lat`;
nothing else changes. -/
def Delivers (i : Instr) (g d : Reg) (lat : Nat) (s : State) (v : Word) : Prop :=
  exec i s = .next (if (s.reg g).getLsbD 0 then { s with results := ⟨d, v, lat⟩ :: s.results } else s)

/-- The operation completes: where bit 0 of the guard `g` is 1, the value of `r` is on its way to `d` and its flags to
PCSW, both with latency `lat`; nothing else changes. -/
def DeliversFloat (i : Instr) (g d : Reg) (lat : Nat) (s : State) (r : FpOut) : Prop :=
  exec i s = .next (if (s.reg g).getLsbD 0 then
    { s with
      results := ⟨d, r.value, lat⟩ :: s.results
      flagUpdates := if r.flags = 0 then s.flagUpdates else ⟨r.flags, lat⟩ :: s.flagUpdates } else s)

/-- The jump completes: where bit 0 of the guard `g` is 1 and the condition holds, its redirect to `target` is pending
for three further instructions; nothing else changes. -/
def Jumps (i : Instr) (g : Reg) (cond interruptible : Bool) (target : Word) (s : State) : Prop :=
  exec i s = .next (if (s.reg g).getLsbD 0 && cond then
    { s with redirects := ⟨target, 3, interruptible⟩ :: s.redirects } else s)

/-! ### The forms of the memory operations (spec/40_load_store.md) -/

/-- The 18 loads with width, sign extension and address (R227 to R237, R251 to R257). -/
def LoadForms (g s1 s2 d : Reg) (m : Int) (s : State) (P : Instr → Width → Bool → Word → Prop) : Prop :=
  P (.ild8 g s1 d) .b1 true (s.reg s1)
  ∧ P (.ild8d g m s1 d) .b1 true (s.addrDisp s1 m)
  ∧ P (.ild8r g s1 s2 d) .b1 true (s.addrIndex s1 s2 1)
  ∧ P (.uld8 g s1 d) .b1 false (s.reg s1)
  ∧ P (.uld8d g m s1 d) .b1 false (s.addrDisp s1 m)
  ∧ P (.uld8r g s1 s2 d) .b1 false (s.addrIndex s1 s2 1)
  ∧ P (.ild16 g s1 d) .b2 true (s.reg s1)
  ∧ P (.ild16d g m s1 d) .b2 true (s.addrDisp s1 m)
  ∧ P (.ild16r g s1 s2 d) .b2 true (s.addrIndex s1 s2 1)
  ∧ P (.ild16x g s1 s2 d) .b2 true (s.addrIndex s1 s2 2)
  ∧ P (.uld16 g s1 d) .b2 false (s.reg s1)
  ∧ P (.uld16d g m s1 d) .b2 false (s.addrDisp s1 m)
  ∧ P (.uld16r g s1 s2 d) .b2 false (s.addrIndex s1 s2 1)
  ∧ P (.uld16x g s1 s2 d) .b2 false (s.addrIndex s1 s2 2)
  ∧ P (.ld32 g s1 d) .b4 false (s.reg s1)
  ∧ P (.ld32d g m s1 d) .b4 false (s.addrDisp s1 m)
  ∧ P (.ld32r g s1 s2 d) .b4 false (s.addrIndex s1 s2 1)
  ∧ P (.ld32x g s1 s2 d) .b4 false (s.addrIndex s1 s2 4)

/-- The four loads of 32 bits (R234 to R237): the only ones MMIO registers allow (R51, R125). -/
def WordLoadForms (g s1 s2 d : Reg) (m : Int) (s : State) (P : Instr → Word → Prop) : Prop :=
  P (.ld32 g s1 d) (s.reg s1)
  ∧ P (.ld32d g m s1 d) (s.addrDisp s1 m)
  ∧ P (.ld32r g s1 s2 d) (s.addrIndex s1 s2 1)
  ∧ P (.ld32x g s1 s2 d) (s.addrIndex s1 s2 4)

/-- The nine stores with width, address and value (R224 to R226, R245 to R250). -/
def StoreForms (g s1 s2 : Reg) (m : Int) (s : State) (P : Instr → Width → Word → Word → Prop) : Prop :=
  P (.st8 g s1 s2) .b1 (s.reg s1) (s.reg s2)
  ∧ P (.st8d g m s1 s2) .b1 (s.addrDisp s1 m) (s.reg s2)
  ∧ P (.hSt8d g m s1 s2) .b1 (s.addrDisp s2 m) (s.reg s1)
  ∧ P (.st16 g s1 s2) .b2 (s.reg s1) (s.reg s2)
  ∧ P (.st16d g m s1 s2) .b2 (s.addrDisp s1 m) (s.reg s2)
  ∧ P (.hSt16d g m s1 s2) .b2 (s.addrDisp s2 m) (s.reg s1)
  ∧ P (.st32 g s1 s2) .b4 (s.reg s1) (s.reg s2)
  ∧ P (.st32d g m s1 s2) .b4 (s.addrDisp s1 m) (s.reg s2)
  ∧ P (.hSt32d g m s1 s2) .b4 (s.addrDisp s2 m) (s.reg s1)

/-- The three stores of 32 bits (R226, R247, R248). -/
def WordStoreForms (g s1 s2 : Reg) (m : Int) (s : State) (P : Instr → Word → Word → Prop) : Prop :=
  P (.st32 g s1 s2) (s.reg s1) (s.reg s2)
  ∧ P (.st32d g m s1 s2) (s.addrDisp s1 m) (s.reg s2)
  ∧ P (.hSt32d g m s1 s2) (s.addrDisp s2 m) (s.reg s1)

/-- The four allocates with their address (R220 to R223). -/
def AllocForms (g s1 s2 : Reg) (m : Int) (s : State) (P : Instr → Word → Prop) : Prop :=
  P (.alloc g s1) (s.reg s1)
  ∧ P (.allocd g m s1) (s.addrDisp s1 m)
  ∧ P (.allocr g s1 s2) (s.addrIndex s1 s2 1)
  ∧ P (.allocx g s1 s2) (s.addrIndex s1 s2 4)

/-- The five prefetches with their address (R240 to R244). -/
def PrefetchForms (g s1 s2 : Reg) (m : Int) (s : State) (P : Instr → Word → Prop) : Prop :=
  P (.pref g s1) (s.reg s1)
  ∧ P (.prefd g m s1) (s.addrDisp s1 m)
  ∧ P (.prefr g s1 s2) (s.addrIndex s1 s2 1)
  ∧ P (.pref16x g s1 s2) (s.addrIndex s1 s2 2)
  ∧ P (.pref32x g s1 s2) (s.addrIndex s1 s2 4)

/-- Address `b` is one of the `n` addresses from `a` on. -/
def inRange (n : Width) (a b : Word) : Prop := (b - a).toNat < n.bytes

end Sys2Proof.Machine
end

