-- ==== Sys2Proof/Certificates/Slice0/Obligations.lean ====
section
/-! DEFINITION. The statements for the provers. The rules cited in the docstrings are those of spec/; 'log n' is
notes/assumptions/n.md. -/
open Sys2Proof Sys2Proof.Machine

/-! ### Encoding -/

/-- The container format loses nothing: every well-formed instruction is decoded from its image. The format is the
model's choice (log 1). -/
def Obligations.InstructionDecodesAsEncoded : Prop :=
  ∀ (b : Bundle) (rest : List Byte), b.wellFormed = true → b.length ≠ 0 →
    decode (encode b ++ rest) = .ok (b, rest)

/-- No two records decode to the same operation: every bit of a record that decodes is a bit of its operation. The
format is the model's choice (log 1). -/
def Obligations.RecordHasOneSpelling : Prop :=
  ∀ (w : OpWord) (i : Instr), decodeOp w = .ok i → encodeOp i = w

/-- Records written out from the operation codes of R192, one or more from each family, pseudo-operations under the code of
their real operation and uimm under that of iimm (R184), in the layout of log 1, decode to their operations; the codes
that no operation has, all those above 215 among them, are refused by name (R185, D11). -/
def Obligations.OperationCodesAreTheTables : Prop :=
  decodeOp 0x00008281810C = .ok (.iadd 1 3 10 4)
  ∧ decodeOp 0x070080018100 = .ok (.igtri 1 (-16) 3 4)
  ∧ decodeOp 0x07F000A3011F = .ok (.hSt32d 1 (-4) 70 2)
  ∧ decodeOp 0x001140320107 = .ok (.ld32d 1 4 100 10)
  ∧ decodeOp 0x080080010108 = .ok (.uld8 1 2 4)
  ∧ decodeOp 0x100080C10121 = .ok (.ules 1 2 3 4)
  ∧ decodeOp 0x7FFFFF8009BF = .ok (.iimm (-256) 9)
  ∧ decodeOp 0xFFFFFFFF85BF = .ok (.uimm 4294967295 5)
  ∧ decodeOp 0x0000019805B2 = .ok (.jmpi 5 0x330)
  ∧ decodeOp 0xF80000000000 = .ok .nop
  ∧ decodeOp 0x0000014201A1 = .ok (.writepcsw 1 4 5)
  ∧ decodeOp 0x01F06001010B = .ok (.asli 1 31 2 3)
  ∧ decodeOp 0x000F9F7F7F46 = .ok (.dspidualadd 127 126 125 124)
  ∧ decodeOp 0x0000A0C10116 = .ok (.fadd 1 2 3 5)
  ∧ decodeOp 0x000060010179 = .ok (.ifixieee 1 2 3)
  ∧ decodeOp 0x000080C10194 = .ok (.feql 1 2 3 4)
  ∧ decodeOp 0x07F0000101CD = .ok (.dcb 1 (-4) 2)
  ∧ ∀ w : OpWord,
    (w.code.toNat ∈ [59, 60, 61, 62, 63, 79, 84, 85, 86, 87, 88, 104, 105, 106, 107, 131, 132, 133, 134, 135, 136, 137,
      163, 164, 165, 166, 167, 168, 169, 170, 171, 172, 173, 174, 175, 182, 183, 185, 186, 187, 188, 189, 190, 204,
      207, 208] ∨ 215 < w.code.toNat) →
    decodeOp w = .error (.unassignedCode w.code)

/-! ### The step -/

/-- A running core whose bytes at PC are a well-formed instruction issues that instruction and ends it (R30, R31): the step
is the issue of the five operations on the state after the fetch, then the end of the instruction. That the inputs `i`
of the clock cycle are the head of an inbox, or quiet where it is empty, is the model's choice (log 17), and so is it
that stall cycles are steps of their own before it (log 18). -/
def Obligations.StepRunsDecodedInstruction : Prop :=
  ∀ (s : State) (i : CycleInputs) (es : List EnvEvent) (b : Bundle) (tail : List Byte),
    (s.inbox = .cycle i :: es ∨ s.inbox = [] ∧ es = [] ∧ i = s.quietInputs) → s.run = .running → s.pwrdwn = false →
    let u : State := { s with inbox := es }
    u.aperturesLegal = true → u.fetchable = true → decode u.fetch.1 = .ok (b, tail) → b.wellFormed = true →
    step s =
      match issueBundle b u.fetch.2 with
      | .next t =>
        match t.retire i u.pc b.length with
        | .ok v => .next v
        | .error e => .refused e
      | r => r

/-- The operations of an instruction are issued slot by slot, each by `exec`; the registers that a later one reads are as
the earlier ones found them (R31). By R31 the order has no meaning for registers; that the memory access of slot 4 is made whole
before that of slot 5, and an iclr before both, is the model's choice (log 23, log 33). An instruction with two special
memory operations, whose order is free (U8, log 33), is left out. -/
def Obligations.OperationsIssueInSlotOrder : Prop :=
  ∀ (b : Bundle) (s t1 t2 t3 t4 t5 : State),
    exec b.slot1 s = .next t1 → exec b.slot2 t1 = .next t2 → exec b.slot3 t2 = .next t3 → exec b.slot4 t3 = .next t4 →
    exec b.slot5 t4 = .next t5 → t5.twoSpecial = false →
    issueBundle b s = .next t5 ∧ s.SameCore t5

/-- With nothing of the two blocks in the instruction cache that is fetched from, the instruction fetched is the 32 bytes
of SDRAM from PC on (R160; the length is the container's, log 1), and each block is an instruction cache miss (R652). -/
def Obligations.FetchReadsSdram : Prop :=
  ∀ s : State, s.fetchable = true →
    s.fetchCache[iSet s.pc].find (iTag s.pc) = none → s.fetchCache[iSet (s.pc + 31)].find (iTag (s.pc + 31)) = none →
    s.fetch.1 = ((List.range 32).map fun k => s.mem.read (s.pc + BitVec.ofNat 32 k).toNat)
    ∧ s.fetch.2.cacheEvents[1] = s.cacheEvents[1] + if blockOf s.pc = blockOf (s.pc + 31) then 1 else 2

/-- r0 reads 0, r1 reads 1 (R21), and an instruction with an operation whose destination is r0 or r1, which R21 and R189
forbid, is refused: the treatment of U1 and the model's log 13. -/
def Obligations.ConstantRegistersAreNoDestinations : Prop :=
  ∀ s : State, s.reg 0 = 0 ∧ s.reg 1 = 1 ∧
    ∀ (bytes tail : List Byte) (b : Bundle) (p : Nat × Instr), decode bytes = .ok (b, tail) → p ∈ b.ops →
      (p.2.dest? = some 0 ∨ p.2.dest? = some 1) → readBundle bytes = .error .illFormedOperation

/-! ### Reset, start, whole-machine rules -/

/-- The state after reset has the values that the spec states; so has, in any state, the core after either way to reset
it: the reset pin, and a PI master's write of ACTION 01 to TM32_CTL, whatever else it writes, unless the core is in full
powerdown and ignores the write (R80, R700, R702). -/
def Obligations.EveryResetGivesStatedValues : Prop :=
  State.reset.ResetValues
  ∧ ∀ s : State,
    (∃ t, s.environment .reset = .ok t ∧ t.ResetValues)
    ∧ ∀ v : Word, s.pwrdwn = false → v.extractLsb' 30 2 = 1 →
      ∃ t, s.environment (.piWrite 0x100030 v) = .ok t ∧ t.ResetValues

/-- ACTION 10 written to TM32_CTL starts a stopped core at TM32_START_ADDR (R704); the write also stores PLL_EN and RATIO
(R53). -/
def Obligations.StartCommandRunsFromStartAddress : Prop :=
  ∀ (s : State) (v : Word), s.pwrdwn = false → s.run = .stopped → v.extractLsb' 30 2 = 2 →
    s.environment (.piWrite 0x100030 v) =
      .ok { s with
        run := .running
        pc := s.startAddr
        ctlPllEn := v.extractLsb' 6 1
        ctlRatio := v.extractLsb' 0 6 }

/-- The state after reset meets the invariant. -/
def Obligations.ResetMeetsInvariant : Prop := State.reset.Inv

/-- Every step keeps the invariant: r0 and r1 constant, memory canonical, aperture registers aligned, results only for
r2 to r127, pending jumps at distinct distances below four, no operation half done, at most two fetches outstanding, no
tag twice in a set of the data cache (R142). -/
def Obligations.StepKeepsInvariant : Prop :=
  ∀ s t : State, s.Inv → step s = .next t → t.Inv

/-- While the core does not become or stay stopped, no step, of the core or of a PI master, changes an aperture register
or MMIO_BASE. R54, R55 and R724 say that they should not be changed while the core runs; that a PI master's write which
would change one is refused is the treatment of U33 (log 13), and that a sleeping core and one in full powerdown count
as running is the model's choice (log 31). -/
def Obligations.AperturesFixedWhileRunning : Prop :=
  ∀ s t : State, s.run ≠ .stopped → t.run ≠ .stopped → step s = .next t →
    t.dramLo = s.dramLo ∧ t.dramHi = s.dramHi ∧ t.dramClimit = s.dramClimit ∧ t.apert1Lo = s.apert1Lo
    ∧ t.apert1Hi = s.apert1Hi ∧ t.mmioBase = s.mmioBase

/-- No operation changes, at its issue, a general register, PC, PCSW, DPC, SPC, CCCOUNT or a register that is read-only
for the core (R31, R32, R52). -/
def Obligations.OperationsLeaveRegistersAtIssue : Prop :=
  ∀ (i : Instr) (s t : State), exec i s = .next t → s.SameCore t

/-- An operation whose guard is 0 does nothing (R36), but that an ftough operation still occupies its unit, as R376
derives. Only iimm, uimm and nop have no guard. -/
def Obligations.FalseGuardDoesNothing : Prop :=
  (∀ (i : Instr) (g : Reg) (s : State), i.guard? = some g → (s.reg g).getLsbD 0 = false →
    (i.unit ≠ .ftough → exec i s = .next s)
    ∧ (i.unit = .ftough → s.ftoughBusy = 0 → exec i s = .next { s with ftoughBusy := 16 }))
  ∧ ∀ i : Instr, i.guard? = none ↔ (∃ m d, i = .iimm m d) ∨ (∃ m d, i = .uimm m d) ∨ i = .nop

/-! ### Write-back -/

/-- At the end of an instruction the results that are due, five at most and for different registers, reach their
registers; every other register keeps its value; the other results come one instruction nearer (R32 to R34). -/
def Obligations.DueResultsAreWritten : Prop :=
  ∀ s : State, (s.dueResults.map fun r => r.dest).Nodup → s.dueResults.length ≤ 5 →
    ∃ t, s.writeBack = .ok (t, 0)
      ∧ (∀ r ∈ s.dueResults, r.dest ≠ 0 → r.dest ≠ 1 → t.reg r.dest = r.value)
      ∧ (∀ q : Reg, (∀ r ∈ s.dueResults, r.dest ≠ q) → t.reg q = s.reg q)
      ∧ t = { s with
        regs := t.regs
        results := (s.results.filter fun r => decide (1 < r.left)).map fun r => { r with left := r.left - 1 } }

/-- More than five results due together for different registers set WBE, and five of them are written (R34, U2); which
five is free (log 14). Two results due together for one register are refused (R35, D4). -/
def Obligations.TooManyOrCollidingResults : Prop :=
  ∀ s : State,
    ((s.dueResults.map fun r => r.dest).Nodup → 5 < s.dueResults.length →
      ∃ t kept, s.writeBack = .ok (t, flagWBE) ∧ kept.Sublist s.dueResults ∧ kept.length = 5
        ∧ t.regs = (s.writeResults kept).regs)
    ∧ (¬(s.dueResults.map fun r => r.dest).Nodup → s.writeBack = .error .writeCollision)

/-- An instruction whose one operation is an iadd puts the sum into its destination, leaves every other register, and
goes on to the next instruction in memory (R31, R32, R446). -/
def Obligations.AddReachesItsRegister : Prop :=
  ∀ (inp : CycleInputs) (s : State) (s1 s2 d : Reg) (len : BitVec 16), d ≠ 0 → d ≠ 1 → s.results = [] →
    s.redirects = [] → s.scratchOk = true →
    ∃ t, runBundle inp ((Bundle.nops len).put 1 (.iadd 1 s1 s2 d)) s = .next t
      ∧ t.reg d = s.reg s1 + s.reg s2 ∧ (∀ q, q ≠ d → t.reg q = s.reg q) ∧ t.pc = s.pc + len.setWidth 32
      ∧ t.results = []

/-! ### PCSW, DPC, SPC, CCCOUNT -/

/-- Where a hardware and a software update of PCSW coincide, a bit that the hardware sets is set, and every other bit is
as writepcsw leaves it (R45, R539). -/
def Obligations.HardwareFlagsWinOverWritepcsw : Prop :=
  ∀ (s : State) (hw : Word) (j : Nat), j < 32 →
    ((s.updatePcsw hw).pcsw.getLsbD j = true ↔
      hw.getLsbD j = true ∨ (∃ f ∈ s.flagUpdates, f.left ≤ 1 ∧ f.bits.getLsbD j = true)
      ∨ (match s.pcswWrite with
        | some (v, m) => if m.getLsbD j then v.getLsbD j else s.pcsw.getLsbD j
        | none => s.pcsw.getLsbD j) = true)

/-- A bit of PCSW that is set stays set until software writes PCSW (R28, R42): at the end of an instruction without
writepcsw no bit is cleared, and a bit is set only by a flag update that is due or by the write-back error. -/
def Obligations.FlagsAreSticky : Prop :=
  ∀ (s t : State) (inp : CycleInputs) (a : Word) (len : BitVec 16) (j : Nat), j < 32 →
    s.retire inp a len = .ok t → s.pcswWrite = none →
    (s.pcsw.getLsbD j = true → t.pcsw.getLsbD j = true)
    ∧ (t.pcsw.getLsbD j = true → s.pcsw.getLsbD j = true
      ∨ (∃ f ∈ s.flagUpdates, f.left ≤ 1 ∧ f.bits.getLsbD j = true)
      ∨ flagWBE.getLsbD j = true ∧ 5 < s.dueResults.length)

/-- A software write of DPC or SPC takes precedence over the write of an interruptible jump in the same instruction
(R48). -/
def Obligations.SoftwareWriteOfDpcSpcWins : Prop :=
  ∀ (s t : State) (inp : CycleInputs) (a v : Word) (len : BitVec 16), s.retire inp a len = .ok t →
    (s.dpcWrite = some v → t.dpc = v) ∧ (s.spcWrite = some v → t.spc = v)

/-- The CCCOUNT master counts the cycle of every instruction, and a stall cycle only with PCSW.CS = 1 (R41, R49). A stall
cycle, a step of its own (log 18), issues nothing: no register changes but CCCOUNT and what a clock cycle changes of
timers, request lines and pending flags (R30). -/
def Obligations.CycleCounterCountsStallsWithCs : Prop :=
  (∀ (s t : State) (inp : CycleInputs) (a : Word) (len : BitVec 16), s.retire inp a len = .ok t →
    t.ccMaster = s.ccMaster + 1)
  ∧ ∀ (s : State) (inp : CycleInputs) (es : List EnvEvent), s.inbox = .stall inp :: es → s.run = .running →
    s.pwrdwn = false →
    ∃ t, step s = .next t ∧ s.Clocked t inp false
      ∧ t = { s with
        ccMaster := if s.pcsw.getLsbD 11 then s.ccMaster + 1 else s.ccMaster
        timers := t.timers
        irqLines := inp.irq
        pend := t.pend
        issue := { s.issue with dataBreaks := 0 }
        cacheEvents := t.cacheEvents
        freeCount := t.freeCount
        inbox := es }

/-- Powerdown (R660, R661, R663). The request for full powerdown completes what is outstanding and is acknowledged, and its
end lets the core go on where it was. Nothing is lost: every register, result and jump on its way stays; where cache and
SDRAM agreed, every byte reads as before (a non-cacheable one, if no cached or evicted copy of it is left from other
apertures), SDRAM has every byte of the copyback buffers, the newest of a block, and else is as before but for dirty
blocks that the last prefetches evicted, and the newest prefetch is in the cache. That all this happens at once and in
every run state, of a stopped or sleeping core too (R703 does not say), and what completing a fetch does, is the model's
choice (log 19, log 25). In full powerdown nothing counts, no instruction is issued, writes of PI masters are ignored and
their reads give a bogus value; whether the edges on request lines are captured is free (log 19, the model's choice). In
partial powerdown the cycle counter counts with CS = 1, with CS = 0 or not, which is not stated (log 19), and timers and
request lines go on; the core wakes exactly where an interrupt would win (D23), and at any read or write of a PI master to
a core register, which acts as on a running core. -/
def Obligations.PowerdownKeepsTheState : Prop :=
  ∀ (s : State) (i : CycleInputs) (off : BitVec 21) (v : Word),
    (∃ t, s.environment (.pwrdwnReq true) = .ok t
      ∧ t = { s with
        mem := t.mem
        dcache := t.dcache
        copyback := []
        fetches := []
        cacheEvents := t.cacheEvents
        freeCount := t.freeCount
        pwrdwn := true
        pwrdwnAck := true }
      ∧ (∀ k : Fin 16, k ≠ 7 → t.cacheEvents[k] = s.cacheEvents[k])
      ∧ s.cacheEvents[7] ≤ t.cacheEvents[7]
      ∧ (s.Coherent → s.memOk = true →
        t.Coherent ∧ t.memOk = true
        ∧ (∀ b : Word, (s.region b = .dramUncached → s.dFind b = none ∧ ∀ c ∈ s.copyback, c.block ≠ blockOf b) →
          t.readByte b = s.readByte b)
        ∧ (∀ b : Word, t.mem.read b.toNat = s.lowerByte (blockOf b) (blockOffset b)
          ∨ ∃ e, s.dFind b = some e ∧ s.dcache[dSet b].lines[e].dirty = true ∧ t.mem.read b.toNat = s.lineByte b e)
        ∧ ∀ (b : Word) (fs : List Fetch), s.fetches = ⟨blockOf b, true⟩ :: fs → fs.length ≤ 1 →
          s.region (b &&& 0xFFFFFFC0) = .dramCached → (t.dFind b).isSome = true))
    ∧ s.environment (.pwrdwnReq false) = .ok { s with pwrdwn := false, pwrdwnAck := false }
    ∧ (s.pwrdwn = true →
      (∃ t, cycleStep i s = .next t ∧ t = { s with irqLines := i.irq, pend := t.pend, freeCount := t.freeCount }
        ∧ (t.pend = s.pend ∨ ∀ n : Fin 32, t.pend.getLsbD n = (s.pend.getLsbD n
          || !s.levelSensitive n && !decide (5 ≤ n.val ∧ n.val ≤ 8) && i.irq.getLsbD n && !s.irqLines.getLsbD n)))
      ∧ s.environment (.piWrite off v) = .ok s ∧ s.environment .drain = .ok s ∧ s.environment .fetchDone = .ok s
      ∧ ∃ t w, s.environment (.piRead off) = .ok t ∧ t = { s with piReply := some w, freeCount := t.freeCount })
    ∧ (s.pwrdwn = false → s.run = .sleeping →
      (∃ t, cycleStep i s = .next t ∧ s.Clocked t i false
        ∧ t = { s with
          ccMaster := t.ccMaster
          timers := t.timers
          irqLines := i.irq
          pend := t.pend
          issue := { s.issue with dataBreaks := 0 }
          cacheEvents := t.cacheEvents
          freeCount := t.freeCount
          run := t.run }
        ∧ (∀ k : Fin 16, t.cacheEvents[k] = s.cacheEvents[k] - 1)
        ∧ (t.ccMaster = s.ccMaster + 1 ∨ s.pcsw.getLsbD 11 = false ∧ t.ccMaster = s.ccMaster)
        ∧ t.run = if (t.interruptWinner s.pcsw).isSome then .running else .sleeping)
      ∧ (mmioArea off.toNat = .core →
        (∃ t, s.environment (.piRead off) = .ok t
          ∧ t = { s with run := .running, piReply := t.piReply, freeCount := t.freeCount })
        ∧ s.environment (.piWrite off v) = ({ s with run := .running } : State).environment (.piWrite off v)
        ∧ ∀ t, s.environment (.piWrite off v) = .ok t → t.run = .running
          ∨ off = 0x100030 ∧ v.extractLsb' 30 2 = 1 ∧ t.run = .stopped))

/-- The reads of the special registers: CCCOUNT's slave and master, DPC, SPC, PCSW (R531 to R536). Their writes (R537 to
R539): the value is taken at issue and written at the end of the instruction; a writepcsw that sets RSE or TRPRSE, whose
places are presumed (log 6), is refused (U3). nop changes nothing (R530). -/
def Obligations.SpecialRegisterReadsAndWrites : Prop :=
  ∀ (g s1 s2 d : Reg) (s : State),
    Delivers (.cycles g d) g d 1 s (BitVec.ofNat 32 s.ccSlave.toNat)
    ∧ Delivers (.hicycles g d) g d 1 s (BitVec.ofNat 32 (s.ccSlave.toNat / 2 ^ 32))
    ∧ Delivers (.curcycles g d) g d 1 s (BitVec.ofNat 32 s.ccMaster.toNat)
    ∧ Delivers (.readdpc g d) g d 1 s s.dpc
    ∧ Delivers (.readspc g d) g d 1 s s.spc
    ∧ Delivers (.readpcsw g d) g d 1 s s.pcsw
    ∧ exec (.writedpc g s1) s = .next (if s.guard g then { s with dpcWrite := some (s.reg s1) } else s)
    ∧ exec (.writespc g s1) s = .next (if s.guard g then { s with spcWrite := some (s.reg s1) } else s)
    ∧ exec .nop s = .next s
    ∧ (s.guard g = true → s.reg s1 &&& s.reg s2 &&& 0x20002000 = 0 →
      exec (.writepcsw g s1 s2) s = .next { s with pcswWrite := some (s.reg s1, s.reg s2) })
    ∧ (s.guard g = true → s.reg s1 &&& s.reg s2 &&& 0x20002000 ≠ 0 →
      exec (.writepcsw g s1 s2) s = .refused .reservedPcswBits)

/-! ### Jumps and events -/

/-- The six jumps (R511, R520 to R525): one whose guard and condition hold leaves a redirect to its target pending, any
other changes nothing. -/
def Obligations.JumpsLeaveTheirRedirect : Prop :=
  ∀ (g s1 s2 : Reg) (a : Word) (s : State),
    Jumps (.jmpi g a) g true false a s
    ∧ Jumps (.jmpt g s1 s2) g ((s.reg s1).getLsbD 0) false (s.reg s2) s
    ∧ Jumps (.jmpf g s1 s2) g (!(s.reg s1).getLsbD 0) false (s.reg s2) s
    ∧ Jumps (.ijmpi g a) g true true a s
    ∧ Jumps (.ijmpt g s1 s2) g ((s.reg s1).getLsbD 0) true (s.reg s2) s
    ∧ Jumps (.ijmpf g s1 s2) g (!(s.reg s1).getLsbD 0) true (s.reg s2) s

/-- The end of an instruction with respect to jumps (R510, R512 to R514): the jump whose delay ends goes to its target, an
interruptible one through the event decision; else the next instruction in memory follows. That an interruptible jump takes
its event decision and writes DPC and SPC only now, when its delay ends, is D20 (R515, log 16, the model's reading); that
the other pending jumps stay pending and come one instruction nearer is D19 (log 15), and that two jumps of one
instruction are refused the treatment of U15 (log 13). -/
def Obligations.RedirectAtTheEndOfAnInstruction : Prop :=
  ∀ (s : State) (len : BitVec 16),
    (¬(s.redirects.map fun r => r.left).Nodup → s.redirect len = .error .twoJumps)
    ∧ ((s.redirects.map fun r => r.left).Nodup →
      ∃ t, s.redirect len = .ok t
        ∧ t.redirects = (s.redirects.filter fun r => decide (r.left ≠ 0)).map (fun r => { r with left := r.left - 1 })
        ∧ (∀ r ∈ s.redirects, r.left = 0 → r.interruptible = false → t.pc = r.target ∧ t.dpc = s.dpc ∧ t.spc = s.spc)
        ∧ (∀ r ∈ s.redirects, r.left = 0 → r.interruptible = true →
          t = ({ s with redirects := t.redirects } : State).completeInterruptible r.target)
        ∧ ((∀ r ∈ s.redirects, r.left ≠ 0) → t.pc = s.pc + len.setWidth 32 ∧ t.dpc = s.dpc ∧ t.spc = s.spc))

/-- A jump in instruction k: instructions k+1, k+2 and k+3 are those that follow in memory, instruction k+4 is the one at
the target (R510). -/
def Obligations.JumpTakesEffectAfterThreeInstructions : Prop :=
  ∀ (inp : CycleInputs) (s : State) (target : Word) (l0 l1 l2 l3 : BitVec 16), s.results = [] → s.redirects = [] →
    s.scratchOk = true →
    ∃ t1 t2 t3 t4, runBundle inp ((Bundle.nops l0).put 2 (.jmpi 1 target)) s = .next t1
      ∧ runBundle inp (Bundle.nops l1) t1 = .next t2
      ∧ runBundle inp (Bundle.nops l2) t2 = .next t3
      ∧ runBundle inp (Bundle.nops l3) t3 = .next t4
      ∧ t1.pc = s.pc + l0.setWidth 32 ∧ t2.pc = t1.pc + l1.setWidth 32 ∧ t3.pc = t2.pc + l2.setWidth 32
      ∧ t4.pc = target

/-- The exception request (R610): MSE with its enable, a floating-point flag with its enable, WBE with its enable, or TFE.
The places of WBE, TRPWBE and TFE are presumed (log 6). -/
def Obligations.ExceptionRequestIsFlagAndEnable : Prop :=
  ∀ p : Word, exceptionPending p = true ↔
    (p.getLsbD 15 = true ∧ p.getLsbD 31 = true)
    ∨ (∃ k < 7, p.getLsbD k = true ∧ p.getLsbD (16 + k) = true)
    ∨ (p.getLsbD 14 = true ∧ p.getLsbD 30 = true)
    ∨ p.getLsbD 12 = true

/-- The event decision at a successful interruptible jump (R514, R611, R613, R614), for the PCSW word `p` that it reads: the
current one, or, shortly after a writepcsw, freely this or an older one (R539, U16, log 20). DPC holds the jump's target
and the CCCOUNT slave is loaded in all cases. With an exception request the machine goes on at EXCVEC; else, where a
source wins, at its vector, and an edge-triggered source's pending flag is cleared; else at the target, which SPC takes
too. Nothing else changes. -/
def Obligations.InterruptibleJumpDecidesTheEvent : Prop :=
  ∀ (s : State) (target : Word),
    ∃ t p, s.completeInterruptible target = t
      ∧ (p = s.pcsw ∨ ∃ q ∈ s.oldPcsw, q.1 = p) ∧ (s.oldPcsw = [] → p = s.pcsw ∧ t.freeCount = s.freeCount)
      ∧ let u : State := { s with dpc := target, ccSlave := s.ccMaster, freeCount := t.freeCount }
        (exceptionPending p = true → t = { u with pc := s.excvec })
        ∧ (∀ w : Fin 32, exceptionPending p = false → s.interruptWinner p = some w →
          t = { u with pc := s.intvec[w], pend := t.pend }
          ∧ ∀ n : Fin 32, t.pend.getLsbD n = (s.pend.getLsbD n && !(decide (n = w) && !s.levelSensitive w)))
        ∧ (exceptionPending p = false → s.interruptWinner p = none → t = { u with spc := target, pc := target })

/-- Arbitration (R612, R625): the winner is pending and not masked; a source at level 7 wins over every other whatever
IEN; else IEN is 1 and no candidate has a higher level; of one level the lowest number wins. Nobody wins exactly when
there is no NMI and no regular candidate with IEN. -/
def Obligations.ArbitrationPicksHighestLevelLowestNumber : Prop :=
  ∀ (s : State) (p : Word),
    (∀ w : Fin 32, s.interruptWinner p = some w ↔
      s.candidate w = true
      ∧ (s.priority w = 7 ∨ p.getLsbD 10 = true ∧ ∀ n : Fin 32, s.candidate n = true → s.priority n ≠ 7)
      ∧ ∀ n : Fin 32, s.candidate n = true →
        s.priority n < s.priority w ∨ s.priority n = s.priority w ∧ w ≤ n)
    ∧ (s.interruptWinner p = none ↔
      ∀ n : Fin 32, s.candidate n = true → s.priority n ≠ 7 ∧ p.getLsbD 10 = false)

/-- IPENDING and ICLEAR (R620, R62): the line of a level-sensitive source, the pending flag of an edge-triggered one.
Stores to IPENDING set and stores to ICLEAR clear the pending flags of the edge-triggered sources whose bit is 1, and
no other (R623); a leading edge on a line sets the flag of an edge-triggered source (R621), except that sources 5 to 8
have no pins (R628). -/
def Obligations.PendingFlagsFollowStoresAndEdges : Prop :=
  ∀ (s : State) (v : Word) (n : Fin 32),
    (s.readMmioReg (mmioReg 0x100820)).1.getLsbD n = (if (s.mp n).getLsbD 3 then s.reqLine n else s.pend.getLsbD n)
    ∧ (s.readMmioReg (mmioReg 0x100824)).1 = (s.readMmioReg (mmioReg 0x100820)).1
    ∧ (∃ t, s.writeMmioReg (mmioReg 0x100820) v = .ok t
      ∧ t.pend.getLsbD n = (s.pend.getLsbD n || v.getLsbD n && !(s.mp n).getLsbD 3))
    ∧ (∃ t, s.writeMmioReg (mmioReg 0x100824) v = .ok t
      ∧ t.pend.getLsbD n = (s.pend.getLsbD n && !(v.getLsbD n && !(s.mp n).getLsbD 3)))
    ∧ (s.sampleLines v).pend.getLsbD n =
      (s.pend.getLsbD n || v.getLsbD n && !s.irqLines.getLsbD n && !(s.mp n).getLsbD 3
        && !(decide (5 ≤ n.val) && decide (n.val ≤ 8)))

/-! ### Timers -/

/-- A clock cycle of a timer (R642): with run bit 0 its value stays; else it advances by the events of its source, wrapping
at the modulus, 2^32 for 0, with an interrupt exactly where it passes from below the modulus to it or above. Source
CLOCK counts 1 in every cycle, PRESCALE 1 in every cycle in which the prescaler reaches its divisor, a pin its edges, the
reserved sources nothing (R640, R641). Of all timers, in a clock cycle of the machine: each does so, and a wrap pulses
the timer's request line and sets the pending flag of its edge-triggered source (R643). The places of the run, source
and prescale fields and the divisors are presumed (log 7).
The events: INSTBREAK where the address of the instruction is in or out of the range that BICTL selects (R650); DATABREAK
one for each load and store of the instruction that BDCTL selects and that matches by address and value (R651); CACHE1
and CACHE2 the cache events that MEM_EVENTS selects (R652). The places of the fields are log 8; that a waiting event is
counted one of each kind a clock cycle is log 34, and that the end of an instruction compares and counts after its
stores is log 45: the model's choices. -/
def Obligations.TimerCountsToItsModulus : Prop :=
  (∀ (t : Timer) (events : Nat → Nat),
    let inc := t.increment events
    let modulus := if t.modulus = 0 then 2 ^ 32 else t.modulus.toNat
    let source := (t.ctl.extractLsb' 12 4).toNat
    let divisor := 2 ^ (t.ctl.extractLsb' 16 4).toNat
    (t.ctl.getLsbD 0 = false → (t.tick events).1.value = t.value ∧ (t.tick events).2 = false)
    ∧ (t.ctl.getLsbD 0 = true →
      ((t.tick events).2 = true ↔ 0 < inc ∧ t.value.toNat < modulus ∧ modulus ≤ t.value.toNat + inc)
      ∧ ((t.tick events).2 = true → (t.tick events).1.value = BitVec.ofNat 32 (t.value.toNat + inc - modulus))
      ∧ ((t.tick events).2 = false → (t.tick events).1.value = t.value + BitVec.ofNat 32 inc)
      ∧ (t.tick events).1.prescale = if divisor ≤ t.prescale + 1 then 0 else t.prescale + 1)
    ∧ (t.tick events).1.modulus = t.modulus ∧ (t.tick events).1.ctl = t.ctl
    ∧ (source = 0 → inc = 1)
    ∧ (source = 1 → inc = if divisor ≤ t.prescale + 1 then 1 else 0)
    ∧ (2 ≤ source → inc = events source))
  ∧ ∀ (s : State) (i : CycleInputs) (brk count : Bool) (k : Nat),
    s.Clocked (s.clockCycle i brk count) i brk
    ∧ s.sourceEvents i brk 3 = s.issue.dataBreaks ∧ s.sourceEvents i brk 4 = (if brk then 1 else 0)
    ∧ (k ∈ [2, 7, 8, 9, 10, 11, 12] → s.sourceEvents i brk k = if i.pins.getLsbD k then 1 else 0)
    ∧ (13 ≤ k → s.sourceEvents i brk k = 0)
    ∧ (s.countsEvent i (s.memEvents.extractLsb' 0 4) → s.sourceEvents i brk 5 = 1)
    ∧ (¬s.countsEvent i (s.memEvents.extractLsb' 0 4) → s.sourceEvents i brk 5 = 0)
    ∧ (s.countsEvent i (s.memEvents.extractLsb' 4 4) → s.sourceEvents i brk 6 = 1)
    ∧ (¬s.countsEvent i (s.memEvents.extractLsb' 4 4) → s.sourceEvents i brk 6 = 0)
    ∧ (∀ e : Fin 16, (s.clockCycle i brk count).cacheEvents[e] = s.cacheEvents[e] - 1)
    ∧ ∀ (a : Word) (len : BitVec 16),
      (s.instBreak a = true ↔ s.bictl.getLsbD 0 = true ∧
        if s.bictl.getLsbD 1 then a < s.binstLow ∨ s.binstHigh < a else s.binstLow ≤ a ∧ a ≤ s.binstHigh)
      ∧ (s.bdataMask ≠ 0 ∨ s.bdctl.getLsbD 1 = false →
        s.observed.issue.dataBreaks = s.issue.dataBreaks + (s.issue.accesses.filter s.isDataBreak).length)
      ∧ ∀ t, s.retire i a len = .ok t → ∀ j : Fin 4, t.timers[j] =
        { (s.timers[j].tick (s.observed.sourceEvents i (s.instBreak a))).1 with pulse := t.timers[j].pulse }

/-! ### Loads -/

/-- A load from SDRAM (R110, R143, R262), whatever its form, delivers with latency 3 a value whose low bytes are the bytes
at its aligned address, the first one lowest with BSX = 1 and highest with BSX = 0 (R101), and whose other bytes extend
it: with copies of its sign bit for a signed form, else with zeros. It sets no flag and changes no register and no
SDRAM. No store of the same instruction touches those bytes. A miss of the data cache is counted (R652), and the data
breakpoint logic gets the computed address and the value (R651, D22). -/
def Obligations.LoadsDeliverTheBytesOfMemory : Prop :=
  ∀ (g s1 s2 d : Reg) (m : Int) (s : State), LoadForms g s1 s2 d m s fun i n sg a =>
    s.guard g = true → s.alignedOk = true → overlaps n (align n a) s.issue.stores = false →
    (s.region (align n a) = .dramCached ∨ s.region (align n a) = .dramUncached) →
    ∃ t v, exec i s = .next t ∧ s.SameButCache t ∧ t.flagUpdates = s.flagUpdates ∧ t.results = ⟨d, v, 3⟩ :: s.results
      ∧ (∀ k < n.bytes, v.extractLsb' (8 * (if s.pcsw.getLsbD 9 then k else n.bytes - 1 - k)) 8 =
        s.readByte (align n a + BitVec.ofNat 32 k))
      ∧ (∀ j < 32, 8 * n.bytes ≤ j → v.getLsbD j = (sg && v.getLsbD (8 * n.bytes - 1)))
      ∧ Logged s t false a v
      ∧ t.cacheEvents[4] = s.cacheEvents[4]
        + if s.region (align n a) = .dramCached ∧ s.dFind (align n a) = none then 1 else 0

/-- Loads and stores outside all apertures (R123): a load delivers 0, a store does nothing but the flag that a misaligned
store sets. An 8- or 16-bit store to the MMIO aperture is refused (R125, U6); a narrow load there delivers any value: a
free word, beside an iclr, too, where the model follows U6 and not U18 (log 26). The data breakpoint logic gets each access that is made, whatever its aperture (R651, D22). -/
def Obligations.AccessesOutsideMemory : Prop :=
  ∀ (g s1 s2 d : Reg) (m : Int) (s : State), s.guard g = true → s.issue.accesses = [] →
    (LoadForms g s1 s2 d m s fun i n _ a =>
      (s.region (align n a) = .none →
        ∃ t, exec i s = .next t ∧ Logged s t false a 0
          ∧ t = { s with results := ⟨d, 0, 3⟩ :: s.results, issue := t.issue, freeCount := t.freeCount })
      ∧ (n ≠ .b4 → s.region (align n a) = .mmio →
        ∃ t v, exec i s = .next t ∧ Logged s t false a v
          ∧ t = { s with results := ⟨d, v, 3⟩ :: s.results, issue := t.issue, freeCount := t.freeCount }))
    ∧ (StoreForms g s1 s2 m s fun i n a v =>
      (s.region (align n a) = .none →
        ∃ t, exec i s = .next t ∧ Logged s t true a (BitVec.ofNat 32 (v.toNat % 2 ^ (8 * n.bytes))) ∧ t = { s with
          flagUpdates := if align n a = a then s.flagUpdates else ⟨0x8000, 1⟩ :: s.flagUpdates
          issue := t.issue
          freeCount := t.freeCount })
      ∧ (n ≠ .b4 → s.region (align n a) = .mmio → exec i s = .refused .narrowMmioStore))

/-- A load from Aperture1 (R128, R129) is a read of the 32-bit word on the PI bus, of which it delivers the bytes that its
address and the byte order select, extended. The word comes from outside and is free (log 28). A store is one write at
the word's address, its value on the low wires; width and low address bits, not BSX, choose the opcode (R130). That the
record has zeros on the upper wires of a narrow write, where the spec prints x, is the model's choice (log 28). The data
breakpoint logic gets each (R651, D22). -/
def Obligations.ApertureAccessesUseThePiBus : Prop :=
  ∀ (g s1 s2 d : Reg) (m : Int) (s : State), s.guard g = true → s.issue.accesses = [] →
    (LoadForms g s1 s2 d m s fun i n sg a => s.region (align n a) = .apert1 →
      ∃ t w v, exec i s = .next t ∧ t.piLog = ⟨.readWdu, align n a &&& ~~~3, w⟩ :: s.piLog
        ∧ v = extend n sg
            (match n with
              | .b4 => w
              | .b2 => (halfAt w (if bsx s.pcsw = a.getLsbD 1 then 1 else 0)).setWidth 32
              | .b1 => (byteAt w (if bsx s.pcsw then (a &&& 3).toNat else 3 - (a &&& 3).toNat)).setWidth 32)
        ∧ t.results = ⟨d, v, 3⟩ :: s.results
        ∧ Logged s t false a v
        ∧ t = { s with results := t.results, issue := t.issue, freeCount := t.freeCount, piLog := t.piLog })
    ∧ (StoreForms g s1 s2 m s fun i n a v => s.region (align n a) = .apert1 →
      ∃ t op, exec i s = .next t
        ∧ t.piLog = ⟨op, align n a &&& ~~~3, BitVec.ofNat 32 (v.toNat % 2 ^ (8 * n.bytes))⟩ :: s.piLog
        ∧ op = (match n, (a &&& 3).toNat with
          | .b4, _ => .writeWdu
          | .b2, 0 => .writeHw0
          | .b2, 1 => .writeHw0
          | .b2, _ => .writeHw1
          | .b1, 0 => .writeBy0
          | .b1, 1 => .writeBy1
          | .b1, 2 => .writeBy2
          | .b1, _ => .writeBy3)
        ∧ Logged s t true a (BitVec.ofNat 32 (v.toNat % 2 ^ (8 * n.bytes)))
        ∧ t = { s with
          flagUpdates := if align n a = a then s.flagUpdates else ⟨0x8000, 1⟩ :: s.flagUpdates
          issue := t.issue
          freeCount := t.freeCount
          piLog := t.piLog })

/-- The 32-bit accesses to the MMIO aperture, whatever BSX is (R111, R125, R126). A load from a core-internal register
delivers the register's value, and a store does what a write of that register does; a store to POWER_DOWN starts partial
powerdown, after a free number of further instructions (R660, R661, log 19), and changes nothing where one has done so
already (the model's choice, log 19). In the instruction cache's tag area (R163) a load delivers the valid bit and the
tag of an element, where that is valid, or the opaque image of a set's LRU bits (log 9), for which tag_i_mux is ignored
(log 40); it is refused in the instruction of an iclr and the next (U18, log 13); a store does nothing. All other offsets
are a read or a write on the PI bus (R126, R130), whose reply is free (U27, log 28). A misaligned store sets its flag, and
the data breakpoint logic gets each access (R651, D22). -/
def Obligations.WordAccessesReachMmioRegisters : Prop :=
  ∀ (g s1 s2 d : Reg) (m : Int) (s : State), s.guard g = true → s.issue.accesses = [] →
    (WordLoadForms g s1 s2 d m s fun i a => s.region (align .b4 a) = .mmio →
      let off := ((align .b4 a).extractLsb' 0 21).toNat
      (0x100000 ≤ off → off < 0x102000 →
        ∃ t v, exec i s = .next t ∧ v = (s.readMmioReg (mmioReg off)).1 ∧ Logged s t false a v
          ∧ t = { s with results := ⟨d, v, 3⟩ :: s.results, issue := t.issue, freeCount := t.freeCount })
      ∧ (off < 0x10000 → s.issue.iclr = true ∨ s.iclrPrev = true → exec i s = .refused .tagReadAfterIclr)
      ∧ (off < 0x10000 → s.issue.iclr = false → s.iclrPrev = false →
        let set := off / 4 % 512
        let element := off / 2048 % 16
        let l := s.icache[Fin.ofNat 64 set].lines[Fin.ofNat 8 element]
        ∃ t v, exec i s = .next t ∧ Logged s t false a v
          ∧ t = { s with results := ⟨d, v, 3⟩ :: s.results, issue := t.issue, freeCount := t.freeCount }
          ∧ (set < 64 → 0x8000 ≤ off → v = s.icache[Fin.ofNat 64 set].lru.image.setWidth 32)
          ∧ (set < 64 → off < 0x8000 → element < 8 →
            v.extractLsb' 21 11 = 0 ∧ v.getLsbD 20 = l.valid ∧ (l.valid = true → v.extractLsb' 0 20 = l.tag)))
      ∧ (0x10000 ≤ off ∧ off < 0x100000 ∨ 0x102000 ≤ off →
        ∃ t w, exec i s = .next t ∧ t.piLog = ⟨.readWdu, align .b4 a, w⟩ :: s.piLog ∧ Logged s t false a w
          ∧ t = { s with
            results := ⟨d, w, 3⟩ :: s.results
            issue := t.issue
            freeCount := t.freeCount
            piLog := t.piLog }))
    ∧ (WordStoreForms g s1 s2 m s fun i a v => s.region (align .b4 a) = .mmio →
      let off := ((align .b4 a).extractLsb' 0 21).toNat
      let flags := if align .b4 a = a then s.flagUpdates else ⟨0x8000, 1⟩ :: s.flagUpdates
      (∀ u, 0x100000 ≤ off → off < 0x102000 → off ≠ 0x100108 → s.writeMmioReg (mmioReg off) v = .ok u →
        ∃ t, exec i s = .next t ∧ Logged s t true a v
          ∧ t = { u with flagUpdates := flags, issue := t.issue, freeCount := t.freeCount })
      ∧ (off = 0x100108 →
        ∃ t n, exec i s = .next t ∧ Logged s t true a v
          ∧ t = { s with
            sleepIn := some (s.sleepIn.getD n)
            flagUpdates := flags
            issue := t.issue
            freeCount := t.freeCount })
      ∧ (off < 0x10000 →
        ∃ t, exec i s = .next t ∧ Logged s t true a v
          ∧ t = { s with flagUpdates := flags, issue := t.issue, freeCount := t.freeCount })
      ∧ (0x10000 ≤ off ∧ off < 0x100000 ∨ 0x102000 ≤ off →
        ∃ t, exec i s = .next t ∧ Logged s t true a v
          ∧ t = { s with
            flagUpdates := flags
            issue := t.issue
            freeCount := t.freeCount
            piLog := ⟨.writeWdu, align .b4 a, v⟩ :: s.piLog }))

/-- What the MMIO registers hold (R52, R58 to R60, R63 to R74, R77, R127): the readable and writable ones read back what
was written, in the bits that they have; TM32_MODID reads 0x2B800001, TM32_PC reads PC, and a register that does not
exist reads 0 and ignores writes. A store of the core to a register that is read-only for it changes nothing (R51).
Locking a larger range than half the cache is refused (U9). The places of the fields of MEM_EVENTS, TCTL, BICTL, BDCTL
and the lock control registers are log 7 and log 8, and what a write of SEM does is D24 (log 21). A write changes no other
register than its own, but for IPENDING and ICLEAR, two names of the pending sources, which ISETTING also selects; beside
registers it changes nothing but, for the lock control registers, caches, copyback buffers, SDRAM and the counts of cache
events. -/
def Obligations.MmioRegistersReadBack : Prop :=
  ∀ (s : State) (v : Word) (off : Nat) (n : Fin 32) (k : Fin 4),
    (off ∈ [0x100800, 0x100828, 0x101004, 0x101008, 0x101030, 0x101034, 0x101038, 0x10103C,
        0x100880 + 4 * n.val, 0x100810 + 4 * k.val, 0x100C00 + 0x20 * k.val, 0x100C04 + 0x20 * k.val] →
      ∃ t, s.writeMmioReg (mmioReg off) v = .ok t ∧ (t.readMmioReg (mmioReg off)).1 = v)
    ∧ (∀ p ∈ [(0x10000C, 0xFF), (0x100C08 + 0x20 * k.val, 0xFF001), (0x101000, 0x3), (0x101020, 0x3F)],
      ∃ t, s.writeMmioReg (mmioReg p.1) v = .ok t
        ∧ (t.readMmioReg (mmioReg p.1)).1 &&& BitVec.ofNat 32 p.2 = v &&& BitVec.ofNat 32 p.2)
    ∧ (off ∈ [0x100014, 0x100018, 0x100214, 0x100218] →
      ∃ t, s.writeMmioReg (mmioReg off) v = .ok t ∧ (t.readMmioReg (mmioReg off)).1 = v &&& 0xFFFFFFC0)
    ∧ (∀ p ∈ [(0x100010, s.dcLockSize, 0x2000), (0x100210, s.icLockSize, 0x4000)],
      (v.getLsbD 0 = false ∨ p.2.1.toNat ≤ p.2.2 →
        ∃ t, s.writeMmioReg (mmioReg p.1) v = .ok t ∧ (t.readMmioReg (mmioReg p.1)).1.getLsbD 0 = v.getLsbD 0)
      ∧ (v.getLsbD 0 = true → p.2.2 < p.2.1.toNat → s.writeMmioReg (mmioReg p.1) v = .error .lockRange))
    ∧ (∃ t, s.writeMmioReg (mmioReg 0x100500) v = .ok t ∧ (t.readMmioReg (mmioReg 0x100500)).1 =
      if s.sem = 0 ∨ v &&& 0xFFF = 0 then v &&& 0xFFF else s.sem.setWidth 32)
    ∧ (off ∈ [0x10001C, 0x100020, 0x100030, 0x100034, 0x100038, 0x10003C, 0x100040, 0x100044, 0x100048, 0x10004C, 0x100FFC] →
      s.writeMmioReg (mmioReg off) v = .ok s)
    ∧ (s.readMmioReg (mmioReg 0x100FFC)).1 = 0x2B800001
    ∧ (s.readMmioReg (mmioReg 0x10004C)).1 = s.pc
    ∧ (∀ off', mmioReg off' = .absent →
      s.readMmioReg (mmioReg off') = (0, s) ∧ s.writeMmioReg (mmioReg off') v = .ok s)
    ∧ ∀ t, s.writeMmioReg (mmioReg off) v = .ok t →
      (∀ off', mmioReg off' ≠ mmioReg off →
        (off' ∈ [0x100820, 0x100824] → off ∉ [0x100820, 0x100824] ∧ ∀ j : Fin 4, off ≠ 0x100810 + 4 * j.val) →
        (t.readMmioReg (mmioReg off')).1 = (s.readMmioReg (mmioReg off')).1)
      ∧ (off ≠ 0x100010 → off ≠ 0x100210 → t.mem = s.mem ∧ t.dcache = s.dcache ∧ t.copyback = s.copyback
        ∧ t.icache = s.icache ∧ t.cacheEvents = s.cacheEvents)
      ∧ t = { s with
        memEvents := t.memEvents
        dcLockCtl := t.dcLockCtl
        dcLockAddr := t.dcLockAddr
        dcLockSize := t.dcLockSize
        icLockCtl := t.icLockCtl
        icLockAddr := t.icLockAddr
        icLockSize := t.icLockSize
        sem := t.sem
        excvec := t.excvec
        intvec := t.intvec
        isetting := t.isetting
        pend := t.pend
        imask := t.imask
        timers := t.timers
        bictl := t.bictl
        binstLow := t.binstLow
        binstHigh := t.binstHigh
        bdctl := t.bdctl
        bdataALow := t.bdataALow
        bdataAHigh := t.bdataAHigh
        bdataVal := t.bdataVal
        bdataMask := t.bdataMask
        mem := t.mem
        dcache := t.dcache
        copyback := t.copyback
        icache := t.icache
        cacheEvents := t.cacheEvents }

/-- A load leaves every byte of memory as it was, and cache and SDRAM in agreement, where they agreed before. -/
def Obligations.LoadsLeaveMemoryUnchanged : Prop :=
  ∀ (g s1 s2 d : Reg) (m : Int) (s t : State), s.Coherent → LoadForms g s1 s2 d m s fun i _ _ _ =>
    exec i s = .next t → t.Coherent ∧ t.mem = s.mem ∧ s.SameBytes t

/-! ### Stores -/

/-- A store to SDRAM (R111, R144, R263), whatever its form, puts the low bytes of its value at its aligned address in the
byte order of BSX; where its address is misaligned MSE is set at the end of the instruction (R42, R104); no register
changes. It is the first memory operation of its instruction. A miss of the data cache is counted (R652), and the data
breakpoint logic gets the computed address and the low bytes of the value (R651, D22). -/
def Obligations.StoresWriteTheBytesOfMemory : Prop :=
  ∀ (g s1 s2 : Reg) (m : Int) (s : State), StoreForms g s1 s2 m s fun i n a v =>
    s.guard g = true → s.alignedOk = true → s.memOk = true → s.issue.accesses = [] →
    (s.region (align n a) = .dramCached ∨ s.region (align n a) = .dramUncached) →
    ∃ t, exec i s = .next t
      ∧ (∀ k < n.bytes, t.readByte (align n a + BitVec.ofNat 32 k) =
        byteAt v (if s.pcsw.getLsbD 9 then k else n.bytes - 1 - k))
      ∧ t.flagUpdates = (if align n a = a then s.flagUpdates else ⟨0x8000, 1⟩ :: s.flagUpdates)
      ∧ t.results = s.results
      ∧ s.SameButCache { t with mem := s.mem }
      ∧ Logged s t true a (BitVec.ofNat 32 (v.toNat % 2 ^ (8 * n.bytes)))
      ∧ t.cacheEvents[5] = s.cacheEvents[5]
        + if s.region (align n a) = .dramCached ∧ s.dFind (align n a) = none then 1 else 0

/-- A store to DRAM or outside all apertures leaves every byte that it does not store to (where it stores at all: the
bytes from its aligned address on), where cache and SDRAM agreed before. -/
def Obligations.StoresLeaveOtherBytes : Prop :=
  ∀ (g s1 s2 : Reg) (m : Int) (s t : State), s.Coherent → s.memOk = true → s.alignedOk = true →
    StoreForms g s1 s2 m s fun i n a _ => s.region (align n a) ≠ .mmio → exec i s = .next t →
      ∀ b : Word, ¬inRange n (align n a) b → t.readByte b = s.readByte b

/-! ### The data cache -/

/-- Allocate (R155, R220 to R223): outside cacheable DRAM nothing happens; else the block of the address is then in the
cache, and, where cache and SDRAM agreed, every byte of every other block is as before. -/
def Obligations.AllocatePutsBlockInCache : Prop :=
  ∀ (g s1 s2 : Reg) (m : Int) (s : State), AllocForms g s1 s2 m s fun i a =>
    s.guard g = true →
    (s.region a ≠ .dramCached → exec i s = .next s)
    ∧ (s.region a = .dramCached → ∃ t, exec i s = .next t ∧ s.SameButCache t ∧ (t.dFind a).isSome = true
      ∧ (s.Coherent → ∀ b, blockOf b ≠ blockOf a → t.readByte b = s.readByte b))

/-- Prefetch (R156, R240 to R244): outside cacheable DRAM nothing happens; else at most a fetch of the block becomes
outstanding, never for a block in the cache, which is counted (R652), nor beside two others; whether a prefetch is carried
out is free (U11, log 24). When the oldest outstanding fetch is done, a prefetched block that is still cacheable and not
yet there comes into the cache: that this is a moment of the environment's choice, the oldest fetch first, is the model's
choice (log 24, log 25). In no case does a byte of memory change where cache and SDRAM agreed. -/
def Obligations.PrefetchLeavesMemoryUnchanged : Prop :=
  (∀ (g s1 s2 : Reg) (m : Int) (s : State), PrefetchForms g s1 s2 m s fun i a =>
    s.guard g = true →
    (s.region a ≠ .dramCached → exec i s = .next s)
    ∧ (s.region a = .dramCached → ∃ t, exec i s = .next t
      ∧ t = { s with fetches := t.fetches, cacheEvents := t.cacheEvents, freeCount := t.freeCount }
      ∧ (t.fetches = s.fetches ∨ (s.dFind a = none ∧ s.fetches.length < 2 ∧ t.fetches = ⟨blockOf a, true⟩ :: s.fetches))
      ∧ t.cacheEvents[13] = s.cacheEvents[13] + (if (s.dFind a).isSome then 1 else 0)
      ∧ (s.Coherent → t.Coherent ∧ s.SameBytes t)))
  ∧ ∀ s : State, s.pwrdwn = false → ∃ t, s.environment .fetchDone = .ok t ∧ t.fetches = s.fetches.dropLast
    ∧ t.mem = s.mem ∧ s.SameCore t ∧ (s.Coherent → t.Coherent ∧ s.SameBytes t)
    ∧ ∀ (a : Word) (fs : List Fetch), s.fetches = fs ++ [⟨blockOf a, true⟩] → s.Coherent →
      s.region (a &&& 0xFFFFFFC0) = .dramCached → (t.dFind a).isSome = true

/-- dcb (R151, R550): afterwards no copyback and no prefetch is pending; the block of the address, where it is cacheable and
in the cache, is valid and clean there, and a dirty one has reached SDRAM, which is counted (R652); that the copyback
buffers which reach SDRAM with it are not counted now is the model's choice (log 34). SDRAM has besides every byte of the
copyback buffers and is else as before, under other dirty blocks, too; every other element of the cache is as before, and
no cacheable byte of memory reads differently. The block becomes least recently used in its set (R152, C1), by log 23 the
next victim that the LRU bits designate; those of other sets stay. No block outside cacheable DRAM is touched; that for an
address there the buffers are emptied and the prefetches discarded all the same is the model's choice (log 25). -/
def Obligations.CopyBackReachesSdram : Prop :=
  ∀ (g s1 : Reg) (m : Int) (s : State), s.guard g = true → s.memOk = true →
    let a := s.addrDisp s1 m
    ∃ t, exec (.dcb g m s1) s = .next t ∧ t.copyback = [] ∧ t.memOk = true
      ∧ t = { s with
        mem := t.mem
        dcache := t.dcache
        copyback := []
        fetches := s.fetches.filter fun f => !f.prefetch
        cacheEvents := t.cacheEvents }
      ∧ (∀ b, s.region b = .dramCached → t.readByte b = s.readByte b)
      ∧ (∀ b : Word, (blockOf b = blockOf a → s.region a = .dramCached → ∀ e, s.dFind a = some e →
          s.dcache[dSet a].lines[e].dirty = false) →
        t.mem.read b.toNat = s.lowerByte (blockOf b) (blockOffset b))
      ∧ (∀ (k : Fin 32) (f : Fin 8), k ≠ dSet a ∨ s.dFind a ≠ some f → t.dcache[k].lines[f] = s.dcache[k].lines[f])
      ∧ (∀ k : Fin 32, k ≠ dSet a ∨ s.dFind a = none → t.dcache[k].lru = s.dcache[k].lru)
      ∧ (s.region a ≠ .dramCached → t.dcache = s.dcache ∧ t.cacheEvents = s.cacheEvents)
      ∧ ∀ e, s.region a = .dramCached → s.dFind a = some e → t.dFind a = some e
        ∧ t.dcache[dSet a].lines[e].dirty = false
        ∧ t.dcache[dSet a].lines[e].data = s.dcache[dSet a].lines[e].data
        ∧ t.dcache[dSet a].lru.victim = e
        ∧ t.cacheEvents[7] = s.cacheEvents[7] + (if s.dcache[dSet a].lines[e].dirty then 1 else 0)
        ∧ (s.dcache[dSet a].lines[e].dirty = true → t.mem.readBlock (blockOf a) = s.dcache[dSet a].lines[e].data)

/-- dinvalid (R152, R551) completes; afterwards no copyback and no prefetch is pending and the block of the address, where it
is cacheable, is not in the cache: its element has lost its valid and dirty bits, and it is not written back, dirty or not,
so that its bytes are those of SDRAM. SDRAM has every byte of the copyback buffers and is else as before; that these are
not counted as copybacks now (event 7 of R652) is the model's choice (log 34). Every other element of the cache is as
before, and the other cacheable bytes read as before. The block becomes least recently used in its set (R152, C1), by log
23 the next victim that the LRU bits designate; those of other sets stay. No block outside cacheable DRAM is touched; that for an address there the buffers are emptied and the prefetches discarded all the same is the model's
choice (log 25). -/
def Obligations.InvalidateDropsTheBlock : Prop :=
  ∀ (g s1 : Reg) (m : Int) (s : State), s.guard g = true → s.memOk = true → s.tagsOk →
    let a := s.addrDisp s1 m
    ∃ t, exec (.dinvalid g m s1) s = .next t ∧ t.copyback = [] ∧ t.memOk = true
      ∧ t = { s with
        mem := t.mem
        dcache := t.dcache
        copyback := []
        fetches := s.fetches.filter fun f => !f.prefetch }
      ∧ (∀ b : Word, t.mem.read b.toNat = s.lowerByte (blockOf b) (blockOffset b))
      ∧ (∀ (k : Fin 32) (f : Fin 8), k ≠ dSet a ∨ s.dFind a ≠ some f → t.dcache[k].lines[f] = s.dcache[k].lines[f])
      ∧ (∀ k : Fin 32, k ≠ dSet a ∨ s.dFind a = none → t.dcache[k].lru = s.dcache[k].lru)
      ∧ (s.region a ≠ .dramCached → t.dcache = s.dcache)
      ∧ (s.region a = .dramCached → t.dFind a = none
        ∧ (∀ e, s.dFind a = some e → t.dcache[dSet a].lines[e].valid = false ∧ t.dcache[dSet a].lines[e].dirty = false
          ∧ t.dcache[dSet a].lru.victim = e)
        ∧ ∀ b, s.region b = .dramCached → blockOf b = blockOf a →
          t.readByte b = t.mem.read b.toNat ∧ t.readByte b = s.lowerByte (blockOf b) (blockOffset b))
      ∧ (∀ b, s.region b = .dramCached → blockOf b ≠ blockOf a → t.readByte b = s.readByte b)

/-- rdtag and rdstatus (R153, R154, R553, R554; the places of the bits by D8 and D9): the valid bit and the tag of the
element that the address names; the dirty bits of its set, and an opaque image of its LRU bits (log 9). The tag of an
invalid element is free. -/
def Obligations.TagAndStatusReads : Prop :=
  ∀ (g s1 d : Reg) (m : Int) (s : State),
    let a := s.addrDisp s1 m
    let l := s.dcache[dSet a].lines[(a.extractLsb' 11 3).toFin]
    (∃ v, Delivers (.rdstatus g m s1 d) g d 3 s v ∧ v.extractLsb' 18 14 = 0
      ∧ (∀ e : Fin 8, v.getLsbD (10 + e) = s.dcache[dSet a].lines[e].dirty)
      ∧ v.extractLsb' 0 10 = s.dcache[dSet a].lru.image)
    ∧ (s.guard g = true → ∃ t v, exec (.rdtag g m s1 d) s = .next t
      ∧ t = { s with results := ⟨d, v, 3⟩ :: s.results, freeCount := t.freeCount }
      ∧ v.extractLsb' 22 10 = 0 ∧ v.getLsbD 21 = l.valid ∧ (l.valid = true → v.extractLsb' 0 21 = l.tag))

/-- iclr completes in every state (R161, R552): every element of the instruction cache becomes invalid, the LRU bits take
their initial value, pending prefetches are discarded. The instructions still to be fetched from older caches are then
two, the last of them from the cache as it was: such a fetch takes the bytes of a block in the oldest of those caches
from it, leaves the current cache alone, and the number counts down, until fetches use the current cache again. The old
cache keeps all its blocks but where a block of the instruction was not in it and is filled from SDRAM, and the sets of
no block of the instruction keep everything. That reading of the instructions i+1 and i+2 is R552's own (log 26). -/
def Obligations.IclrEmptiesTheInstructionCache : Prop :=
  (∀ (g : Reg) (s : State),
    (s.guard g = false → exec (.iclr g) s = .next s)
    ∧ (s.guard g = true → ∃ t, exec (.iclr g) s = .next t
      ∧ (∀ (k : Fin 64) (e : Fin 8), t.icache[k].lines[e].valid = false)
      ∧ (∀ k : Fin 64, t.icache[k].lru = Lru.initial)
      ∧ t.icacheOld = s.icacheOld ++
        (let n := (s.icacheOld.map fun o => o.left).sum
        if n < 2 then [⟨s.icache, 2 - n⟩] else [])
      ∧ t = { s with
        icache := t.icache
        icacheOld := t.icacheOld
        fetches := s.fetches.filter fun f => !f.prefetch
        issue := t.issue }))
  ∧ ∀ s : State,
    (∀ o os, s.icacheOld = o :: os →
      s.fetch.2.icache = s.icache
      ∧ (o.left ≤ 1 → s.fetch.2.icacheOld = os)
      ∧ (1 < o.left → ∃ old : ICache, s.fetch.2.icacheOld = ⟨old, o.left - 1⟩ :: os
        ∧ (∀ j : Fin 64, j ≠ iSet s.pc → j ≠ iSet (s.pc + 31) → old[j] = o.cache[j])
        ∧ ∀ (j : Fin 64) (e : Fin 8), old[j].lines[e] = o.cache[j].lines[e]
          ∨ ∃ a ∈ [s.pc, s.pc + 31], j = iSet a ∧ o.cache[j].find (iTag a) = none
            ∧ old[j].lines[e] = ⟨true, false, o.cache[j].lines[e].locked, iTag a, s.mem.readBlock (blockOf a)⟩)
      ∧ ∀ k < 32, ∀ e : Fin 8, let a := s.pc + BitVec.ofNat 32 k
        o.cache[iSet a].find (iTag a) = some e →
        s.fetch.1[k]? = some o.cache[iSet a].lines[e].data[blockOffset a])
    ∧ (s.icacheOld = [] → s.fetch.2.icacheOld = []
      ∧ ∀ k < 32, ∀ e : Fin 8, let a := s.pc + BitVec.ofNat 32 k
        s.icache[iSet a].find (iTag a) = some e →
        s.fetch.1[k]? = some s.icache[iSet a].lines[e].data[blockOffset a])

/-- The element just referenced is never the next victim, and from the initial LRU bits the victims, each referenced in
turn, are 0, 6, 4, 2, 1, 7, 5, 3 (R146, R147). -/
def Obligations.LruNeverEvictsTheLastReferenced : Prop :=
  (∀ (l : Lru) (e : Fin 8), (l.reference e).victim ≠ e)
  ∧ ∀ k : Fin 8,
    (([0, 6, 4, 2, 1, 7, 5, 3] : List (Fin 8)).take k.val |>.foldl Lru.reference Lru.initial).victim =
      ([0, 6, 4, 2, 1, 7, 5, 3] : List (Fin 8))[k]

/-! ### Integer operations -/

/-- Sums, differences, absolute values modulo 2^32 (R444 to R447, R449, R452, R454, R455), and the low and high words of
the exact signed and unsigned 64-bit products (R450, R451, R457, R458). -/
def Obligations.IntegerSumsAndProducts : Prop :=
  ∀ (g s1 s2 d : Reg) (m : Int) (s : State),
    let p := (s.reg s1).signExtend 64 * (s.reg s2).signExtend 64
    let q := (s.reg s1).setWidth 64 * (s.reg s2).setWidth 64
    let a := (s.reg s1).toInt
    let b := (s.reg s2).toInt
    Delivers (.iadd g s1 s2 d) g d 1 s (BitVec.ofInt 32 (a + b))
    ∧ Delivers (.isub g s1 s2 d) g d 1 s (BitVec.ofInt 32 (a - b))
    ∧ Delivers (.iaddi g m s1 d) g d 1 s (BitVec.ofInt 32 (a + m))
    ∧ Delivers (.isubi g m s1 d) g d 1 s (BitVec.ofInt 32 (a - m))
    ∧ Delivers (.ineg g s1 d) g d 1 s (BitVec.ofInt 32 (-a))
    ∧ Delivers (.iabs g s1 d) g d 1 s (BitVec.ofInt 32 a.natAbs)
    ∧ Delivers (.hIabs g 0 s2 d) g d 1 s (BitVec.ofInt 32 b.natAbs)
    ∧ Delivers (.ident g s1 d) g d 1 s (s.reg s1)
    ∧ Delivers (.imul g s1 s2 d) g d 3 s (p.extractLsb' 0 32)
    ∧ Delivers (.imulm g s1 s2 d) g d 3 s (p.extractLsb' 32 32)
    ∧ Delivers (.umul g s1 s2 d) g d 3 s (q.extractLsb' 0 32)
    ∧ Delivers (.umulm g s1 s2 d) g d 3 s (q.extractLsb' 32 32)

/-- Carry, borrow, average, selection (R442, R443, R448, R453, R456) and the constants (R459, R460), which have no
guard. -/
def Obligations.CarriesSelectionsConstants : Prop :=
  ∀ (g s1 s2 d : Reg) (m : Int) (s : State),
    let a := s.reg s1
    let b := s.reg s2
    Delivers (.carry g s1 s2 d) g d 1 s (BitVec.ofNat 32 ((a.toNat + b.toNat) / 2 ^ 32))
    ∧ Delivers (.borrow g s1 s2 d) g d 1 s (if a.ult b then 1 else 0)
    ∧ Delivers (.iavgonep g s1 s2 d) g d 2 s (((a.signExtend 33 + b.signExtend 33 + 1).sshiftRight 1).setWidth 32)
    ∧ Delivers (.izero g s1 s2 d) g d 1 s (if a.toNat = 0 then 0 else b)
    ∧ Delivers (.inonzero g s1 s2 d) g d 1 s (if a.toNat = 0 then b else 0)
    ∧ exec (.iimm m d) s = .next { s with results := ⟨d, BitVec.ofInt 32 m, 1⟩ :: s.results }
    ∧ exec (.uimm m d) s = .next { s with results := ⟨d, BitVec.ofInt 32 m, 1⟩ :: s.results }

/-- Extensions, packing, merging (R461 to R464, R561 to R566); byte selection (R560, R567): the selected byte extended,
and, for a selector above 3, a free value, with which the operation still completes (U17). -/
def Obligations.ExtensionsPackingSelection : Prop :=
  ∀ (g s1 s2 d : Reg) (s : State),
    let a := s.reg s1
    let b := s.reg s2
    Delivers (.sex8 g s1 d) g d 1 s (BitVec.ofInt 32 (a.extractLsb' 0 8).toInt)
    ∧ Delivers (.sex16 g s1 d) g d 1 s (BitVec.ofInt 32 (a.extractLsb' 0 16).toInt)
    ∧ Delivers (.zex8 g s1 d) g d 1 s (BitVec.ofNat 32 (a.toNat % 2 ^ 8))
    ∧ Delivers (.zex16 g s1 d) g d 1 s (BitVec.ofNat 32 (a.toNat % 2 ^ 16))
    ∧ Delivers (.pack16lsb g s1 s2 d) g d 1 s (BitVec.ofNat 32 (a.toNat % 2 ^ 16 * 2 ^ 16 + b.toNat % 2 ^ 16))
    ∧ Delivers (.pack16msb g s1 s2 d) g d 1 s (BitVec.ofNat 32 (a.toNat / 2 ^ 16 * 2 ^ 16 + b.toNat / 2 ^ 16))
    ∧ Delivers (.packbytes g s1 s2 d) g d 1 s (BitVec.ofNat 32 (a.toNat % 2 ^ 8 * 2 ^ 8 + b.toNat % 2 ^ 8))
    ∧ (∃ v, Delivers (.mergelsb g s1 s2 d) g d 1 s v
      ∧ byteAt v 3 = byteAt a 1 ∧ byteAt v 2 = byteAt b 1 ∧ byteAt v 1 = byteAt a 0 ∧ byteAt v 0 = byteAt b 0)
    ∧ (∃ v, Delivers (.mergemsb g s1 s2 d) g d 1 s v
      ∧ byteAt v 3 = byteAt a 3 ∧ byteAt v 2 = byteAt b 3 ∧ byteAt v 1 = byteAt a 2 ∧ byteAt v 0 = byteAt b 2)
    ∧ (∃ v, Delivers (.mergedual16lsb g s1 s2 d) g d 1 s v
      ∧ byteAt v 3 = byteAt a 2 ∧ byteAt v 2 = byteAt a 0 ∧ byteAt v 1 = byteAt b 2 ∧ byteAt v 0 = byteAt b 0)
    ∧ (b.toNat < 4 →
      Delivers (.ibytesel g s1 s2 d) g d 1 s (BitVec.ofInt 32 (a.extractLsb' (8 * b.toNat) 8).toInt)
      ∧ Delivers (.ubytesel g s1 s2 d) g d 1 s (BitVec.ofNat 32 (a.toNat / 2 ^ (8 * b.toNat) % 2 ^ 8)))
    ∧ (4 ≤ b.toNat → s.guard g = true → ∃ v,
      exec (.ibytesel g s1 s2 d) s = .next { s with results := ⟨d, v, 1⟩ :: s.results, freeCount := s.freeCount + 1 }
      ∧ exec (.ubytesel g s1 s2 d) s = .next { s with results := ⟨d, v, 1⟩ :: s.results, freeCount := s.freeCount + 1 })

/-- The comparisons, signed and unsigned, deliver 1 where the relation holds, else 0 (R480 to R505). -/
def Obligations.IntegerComparisons : Prop :=
  ∀ (g s1 s2 d : Reg) (m : Int) (s : State),
    let a := s.reg s1
    let b := s.reg s2
    Delivers (.ieql g s1 s2 d) g d 1 s (if a = b then 1 else 0)
    ∧ Delivers (.ineq g s1 s2 d) g d 1 s (if a = b then 0 else 1)
    ∧ Delivers (.igtr g s1 s2 d) g d 1 s (if b.slt a then 1 else 0)
    ∧ Delivers (.igeq g s1 s2 d) g d 1 s (if b.sle a then 1 else 0)
    ∧ Delivers (.iles g s1 s2 d) g d 1 s (if a.slt b then 1 else 0)
    ∧ Delivers (.ileq g s1 s2 d) g d 1 s (if a.sle b then 1 else 0)
    ∧ Delivers (.ieqli g m s1 d) g d 1 s (if a.toInt = m then 1 else 0)
    ∧ Delivers (.ineqi g m s1 d) g d 1 s (if a.toInt = m then 0 else 1)
    ∧ Delivers (.igtri g m s1 d) g d 1 s (if a.toInt ≤ m then 0 else 1)
    ∧ Delivers (.igeqi g m s1 d) g d 1 s (if a.toInt < m then 0 else 1)
    ∧ Delivers (.ilesi g m s1 d) g d 1 s (if m ≤ a.toInt then 0 else 1)
    ∧ Delivers (.ileqi g m s1 d) g d 1 s (if m < a.toInt then 0 else 1)
    ∧ Delivers (.ueql g s1 s2 d) g d 1 s (if a = b then 1 else 0)
    ∧ Delivers (.uneq g s1 s2 d) g d 1 s (if a = b then 0 else 1)
    ∧ Delivers (.ugtr g s1 s2 d) g d 1 s (if b.ult a then 1 else 0)
    ∧ Delivers (.ugeq g s1 s2 d) g d 1 s (if b.ule a then 1 else 0)
    ∧ Delivers (.ules g s1 s2 d) g d 1 s (if a.ult b then 1 else 0)
    ∧ Delivers (.uleq g s1 s2 d) g d 1 s (if a.ule b then 1 else 0)
    ∧ Delivers (.ueqli g m s1 d) g d 1 s (if (a.toNat : Int) = m then 1 else 0)
    ∧ Delivers (.uneqi g m s1 d) g d 1 s (if (a.toNat : Int) = m then 0 else 1)
    ∧ Delivers (.ugtri g m s1 d) g d 1 s (if (a.toNat : Int) ≤ m then 0 else 1)
    ∧ Delivers (.ugeqi g m s1 d) g d 1 s (if (a.toNat : Int) < m then 0 else 1)
    ∧ Delivers (.ulesi g m s1 d) g d 1 s (if m ≤ (a.toNat : Int) then 0 else 1)
    ∧ Delivers (.uleqi g m s1 d) g d 1 s (if m < (a.toNat : Int) then 0 else 1)

/-- Shifts are multiplications and floor divisions by powers of two, for every amount; rotates use the low five bits
(R281, R283 to R286, R290 to R295). Funnel shifts take four bytes of the eight of both sources; the logic operations act
bit by bit (R287 to R289, R296 to R300). -/
def Obligations.ShiftsRotatesLogic : Prop :=
  ∀ (g s1 s2 d : Reg) (m : Int) (s : State),
    let a := s.reg s1
    let b := s.reg s2
    let n := (s.reg s2).toNat
    Delivers (.asl g s1 s2 d) g d 1 s (BitVec.ofNat 32 (a.toNat * 2 ^ n))
    ∧ Delivers (.lsl g s1 s2 d) g d 1 s (BitVec.ofNat 32 (a.toNat * 2 ^ n))
    ∧ Delivers (.asr g s1 s2 d) g d 1 s (BitVec.ofInt 32 (a.toInt / 2 ^ n))
    ∧ Delivers (.lsr g s1 s2 d) g d 1 s (BitVec.ofNat 32 (a.toNat / 2 ^ n))
    ∧ Delivers (.asli g m s1 d) g d 1 s (BitVec.ofNat 32 (a.toNat * 2 ^ m.toNat))
    ∧ Delivers (.lsli g m s1 d) g d 1 s (BitVec.ofNat 32 (a.toNat * 2 ^ m.toNat))
    ∧ Delivers (.asri g m s1 d) g d 1 s (BitVec.ofInt 32 (a.toInt / 2 ^ m.toNat))
    ∧ Delivers (.lsri g m s1 d) g d 1 s (BitVec.ofNat 32 (a.toNat / 2 ^ m.toNat))
    ∧ Delivers (.rol g s1 s2 d) g d 1 s (((a ++ a) <<< (n % 32)).extractLsb' 32 32)
    ∧ Delivers (.roli g m s1 d) g d 1 s (((a ++ a) <<< (m.toNat % 32)).extractLsb' 32 32)
    ∧ Delivers (.funshift1 g s1 s2 d) g d 1 s ((a ++ b).extractLsb' 24 32)
    ∧ Delivers (.funshift2 g s1 s2 d) g d 1 s ((a ++ b).extractLsb' 16 32)
    ∧ Delivers (.funshift3 g s1 s2 d) g d 1 s ((a ++ b).extractLsb' 8 32)
    ∧ (∃ v, Delivers (.bitand g s1 s2 d) g d 1 s v ∧ ∀ j < 32, v.getLsbD j = (a.getLsbD j && b.getLsbD j))
    ∧ (∃ v, Delivers (.bitandinv g s1 s2 d) g d 1 s v ∧ ∀ j < 32, v.getLsbD j = (a.getLsbD j && !b.getLsbD j))
    ∧ (∃ v, Delivers (.bitor g s1 s2 d) g d 1 s v ∧ ∀ j < 32, v.getLsbD j = (a.getLsbD j || b.getLsbD j))
    ∧ (∃ v, Delivers (.bitxor g s1 s2 d) g d 1 s v ∧ ∀ j < 32, v.getLsbD j = (a.getLsbD j != b.getLsbD j))
    ∧ (∃ v, Delivers (.bitinv g s1 d) g d 1 s v ∧ ∀ j < 32, v.getLsbD j = !a.getLsbD j)

/-! ### DSP operations -/

/-- The clipped 32-bit operations, clips, minima and maxima (R313, R314, R319 to R322, R324, R328, R330, R334 to R336,
R341, R342, R347). A clip bound outside its stated range is used as the formula is written (U13, log 35). -/
def Obligations.ClippedWordArithmetic : Prop :=
  ∀ (g s1 s2 d : Reg) (s : State),
    let a := s.reg s1
    let b := s.reg s2
    let top : Int := 2 ^ 31 - 1
    Delivers (.dspiadd g s1 s2 d) g d 2 s (BitVec.ofInt 32 (max (-2 ^ 31) (min top (a.toInt + b.toInt))))
    ∧ Delivers (.dspisub g s1 s2 d) g d 2 s (BitVec.ofInt 32 (max (-2 ^ 31) (min top (a.toInt - b.toInt))))
    ∧ Delivers (.dspimul g s1 s2 d) g d 3 s (BitVec.ofInt 32 (max (-2 ^ 31) (min top (a.toInt * b.toInt))))
    ∧ Delivers (.dspiabs g s1 d) g d 2 s (BitVec.ofInt 32 (min top a.toInt.natAbs))
    ∧ Delivers (.hDspiabs g 0 s2 d) g d 2 s (BitVec.ofInt 32 (min top b.toInt.natAbs))
    ∧ Delivers (.dspuadd g s1 s2 d) g d 2 s (BitVec.ofNat 32 (min (2 ^ 32 - 1) (a.toNat + b.toNat)))
    ∧ Delivers (.dspusub g s1 s2 d) g d 2 s (BitVec.ofNat 32 (a.toNat - b.toNat))
    ∧ Delivers (.dspumul g s1 s2 d) g d 3 s (BitVec.ofNat 32 (min (2 ^ 32 - 1) (a.toNat * b.toNat)))
    ∧ Delivers (.iclipi g s1 s2 d) g d 2 s (BitVec.ofInt 32 (min (b.toNat : Int) (max (-(b.toNat : Int) - 1) a.toInt)))
    ∧ Delivers (.uclipi g s1 s2 d) g d 2 s (BitVec.ofNat 32 (min b.toNat a.toInt.toNat))
    ∧ Delivers (.uclipu g s1 s2 d) g d 2 s (BitVec.ofNat 32 (min a.toNat b.toNat))
    ∧ Delivers (.umin g s1 s2 d) g d 2 s (BitVec.ofNat 32 (min a.toNat b.toNat))
    ∧ Delivers (.imax g s1 s2 d) g d 2 s (BitVec.ofInt 32 (max a.toInt b.toInt))
    ∧ Delivers (.imin g s1 s2 d) g d 2 s (BitVec.ofInt 32 (min a.toInt b.toInt))
    ∧ Delivers (.iflip g s1 s2 d) g d 2 s (if a.toNat = 0 then b else BitVec.ofInt 32 (-b.toInt))

/-- The operations on both halfwords (R315 to R318, R325 to R327, R329) and on all four bytes (R323, R337 to R340): each
halfword or byte of the result comes from the same places of the operands. A bound of dualiclipi and dualuclipi outside
its stated range is used as the formula is written (U13, log 35: for the hardware any value could result). -/
def Obligations.DualAndQuadArithmetic : Prop :=
  ∀ (g s1 s2 d : Reg) (s : State),
    let a := fun k => (halfAt (s.reg s1) k).toInt
    let b := fun k => (halfAt (s.reg s2) k).toInt
    let x := fun k => (byteAt (s.reg s1) k).toNat
    let y := fun k => (byteAt (s.reg s2) k).toNat
    let bound := ((halfAt (s.reg s2) 0).toNat : Int)
    let clip16 := fun x : Int => BitVec.ofInt 16 (max (-2 ^ 15) (min (2 ^ 15 - 1) x))
    (∃ v, Delivers (.dspidualadd g s1 s2 d) g d 2 s v ∧ ∀ k < 2, halfAt v k = clip16 (a k + b k))
    ∧ (∃ v, Delivers (.dspidualsub g s1 s2 d) g d 2 s v ∧ ∀ k < 2, halfAt v k = clip16 (a k - b k))
    ∧ (∃ v, Delivers (.dspidualmul g s1 s2 d) g d 3 s v ∧ ∀ k < 2, halfAt v k = clip16 (a k * b k))
    ∧ (∃ v, Delivers (.dspidualabs g s1 d) g d 2 s v ∧ ∀ k < 2, halfAt v k = clip16 (a k).natAbs)
    ∧ (∃ v, Delivers (.hDspidualabs g 0 s2 d) g d 2 s v ∧ ∀ k < 2, halfAt v k = clip16 (b k).natAbs)
    ∧ (∃ v, Delivers (.dualasr g s1 s2 d) g d 1 s v
      ∧ ∀ k < 2, halfAt v k = BitVec.ofInt 16 (a k / 2 ^ (s.reg s2).toNat))
    ∧ (∃ v, Delivers (.dualiclipi g s1 s2 d) g d 2 s v
      ∧ ∀ k < 2, halfAt v k = BitVec.ofInt 16 (min bound (max (-bound - 1) (a k))))
    ∧ (∃ v, Delivers (.dualuclipi g s1 s2 d) g d 2 s v
      ∧ ∀ k < 2, halfAt v k = BitVec.ofInt 16 (min bound (max 0 (a k))))
    ∧ (∃ v, Delivers (.quadavg g s1 s2 d) g d 2 s v ∧ ∀ k < 4, (byteAt v k).toNat = (x k + y k + 1) / 2)
    ∧ (∃ v, Delivers (.quadumax g s1 s2 d) g d 2 s v ∧ ∀ k < 4, (byteAt v k).toNat = max (x k) (y k))
    ∧ (∃ v, Delivers (.quadumin g s1 s2 d) g d 2 s v ∧ ∀ k < 4, (byteAt v k).toNat = min (x k) (y k))
    ∧ (∃ v, Delivers (.quadumulmsb g s1 s2 d) g d 3 s v ∧ ∀ k < 4, (byteAt v k).toNat = x k * y k / 2 ^ 8)
    ∧ (∃ v, Delivers (.dspuquadaddui g s1 s2 d) g d 2 s v
      ∧ ∀ k < 4, ((byteAt v k).toNat : Int) = max 0 (min 255 (x k + (byteAt (s.reg s2) k).toInt)))

/-- The sums of products and of absolute differences (R331 to R333, R343 to R346); ifir16 and ufir16 clip. -/
def Obligations.SumsOfProducts : Prop :=
  ∀ (g s1 s2 d : Reg) (s : State),
    let sh := fun (w : Word) (k : Nat) => (halfAt w k).toInt
    let sb := fun (w : Word) (k : Nat) => (byteAt w k).toInt
    let ub := fun (w : Word) (k : Nat) => ((byteAt w k).toNat : Int)
    let a := s.reg s1
    let b := s.reg s2
    Delivers (.ifir16 g s1 s2 d) g d 3 s
      (BitVec.ofInt 32 (max (-2 ^ 31) (min (2 ^ 31 - 1) ((List.range 2).map fun k => sh a k * sh b k).sum)))
    ∧ Delivers (.ufir16 g s1 s2 d) g d 3 s
      (BitVec.ofNat 32 (min (2 ^ 32 - 1) ((List.range 2).map fun k => (halfAt a k).toNat * (halfAt b k).toNat).sum))
    ∧ Delivers (.ifir8ii g s1 s2 d) g d 3 s (BitVec.ofInt 32 ((List.range 4).map fun k => sb a k * sb b k).sum)
    ∧ Delivers (.ifir8ui g s1 s2 d) g d 3 s (BitVec.ofInt 32 ((List.range 4).map fun k => ub a k * sb b k).sum)
    ∧ Delivers (.ufir8uu g s1 s2 d) g d 3 s (BitVec.ofInt 32 ((List.range 4).map fun k => ub a k * ub b k).sum)
    ∧ Delivers (.ume8ii g s1 s2 d) g d 2 s (BitVec.ofInt 32 ((List.range 4).map fun k => ((sb a k - sb b k).natAbs : Int)).sum)
    ∧ Delivers (.ume8uu g s1 s2 d) g d 2 s (BitVec.ofInt 32 ((List.range 4).map fun k => ((ub a k - ub b k).natAbs : Int)).sum)

/-! ### Floating point -/

/-- The floating-point arithmetic completes (R360, R365 to R380): value and flags arrive together after the unit's latency;
the flags forms deliver the flags and leave PCSW alone. The ftough unit, recovered, is then occupied (R376). That an ftough
operation on a busy unit is refused is what R376 derives and the treatment of U24 (log 13), the model's reading. -/
def Obligations.FloatArithmeticCompletes : Prop :=
  ∀ (g s1 s2 d : Reg) (s : State),
    let a := s.reg s1
    let b := s.reg s2
    let mode := s.pcsw.extractLsb' 7 2
    let u := { s with ftoughBusy := 16 }
    DeliversFloat (.fadd g s1 s2 d) g d 3 s (fpAdd mode a b)
    ∧ Delivers (.faddflags g s1 s2 d) g d 3 s (fpAdd mode a b).flags
    ∧ DeliversFloat (.fsub g s1 s2 d) g d 3 s (fpSub mode a b)
    ∧ Delivers (.fsubflags g s1 s2 d) g d 3 s (fpSub mode a b).flags
    ∧ DeliversFloat (.fmul g s1 s2 d) g d 3 s (fpMul mode a b)
    ∧ Delivers (.fmulflags g s1 s2 d) g d 3 s (fpMul mode a b).flags
    ∧ DeliversFloat (.fabsval g s1 d) g d 3 s (fpAbs a)
    ∧ Delivers (.fabsvalflags g s1 d) g d 3 s (fpAbs a).flags
    ∧ DeliversFloat (.fsign g s1 d) g d 1 s (fpSign a)
    ∧ Delivers (.fsignflags g s1 d) g d 1 s (fpSign a).flags
    ∧ (s.ftoughBusy = 0 →
      exec (.fdiv g s1 s2 d) s = issueFloat .ftough g d (fpDiv mode a b) u
      ∧ exec (.fdivflags g s1 s2 d) s = .next (if s.guard g then u.issueResult d (fpDiv mode a b).flags 17 else u)
      ∧ exec (.fsqrt g s1 d) s = issueFloat .ftough g d (fpSqrt mode a) u
      ∧ exec (.fsqrtflags g s1 d) s = .next (if s.guard g then u.issueResult d (fpSqrt mode a).flags 17 else u)
      ∧ issueFloat .ftough g d (fpDiv mode a b) u =
        .next (if s.guard g then (u.issueResult d (fpDiv mode a b).value 17).issueFlags (fpDiv mode a b).flags 17 else u)
      ∧ issueFloat .ftough g d (fpSqrt mode a) u =
        .next (if s.guard g then (u.issueResult d (fpSqrt mode a).value 17).issueFlags (fpSqrt mode a).flags 17 else u))
    ∧ (s.ftoughBusy ≠ 0 →
      exec (.fdiv g s1 s2 d) s = .refused .ftoughBusy ∧ exec (.fdivflags g s1 s2 d) s = .refused .ftoughBusy
      ∧ exec (.fsqrt g s1 d) s = .refused .ftoughBusy ∧ exec (.fsqrtflags g s1 d) s = .refused .ftoughBusy)

/-- The conversions complete (R390 to R409): those with rz round toward zero, the others in the mode of PCSW; and the
comparisons (R420 to R434): fles and fleq are fgtr and fgeq with their operands exchanged. -/
def Obligations.FloatConversionsAndComparisonsComplete : Prop :=
  ∀ (g s1 s2 d : Reg) (s : State),
    let a := s.reg s1
    let b := s.reg s2
    let mode := s.pcsw.extractLsb' 7 2
    DeliversFloat (.ifixieee g s1 d) g d 3 s (fpToInt mode a)
    ∧ Delivers (.ifixieeeflags g s1 d) g d 3 s (fpToInt mode a).flags
    ∧ DeliversFloat (.ifixrz g s1 d) g d 3 s (fpToInt 1 a)
    ∧ Delivers (.ifixrzflags g s1 d) g d 3 s (fpToInt 1 a).flags
    ∧ DeliversFloat (.ufixieee g s1 d) g d 3 s (fpToUInt mode a)
    ∧ Delivers (.ufixieeeflags g s1 d) g d 3 s (fpToUInt mode a).flags
    ∧ DeliversFloat (.ufixrz g s1 d) g d 3 s (fpToUInt 1 a)
    ∧ Delivers (.ufixrzflags g s1 d) g d 3 s (fpToUInt 1 a).flags
    ∧ DeliversFloat (.ifloat g s1 d) g d 3 s (fpOfInt mode a)
    ∧ Delivers (.ifloatflags g s1 d) g d 3 s (fpOfInt mode a).flags
    ∧ DeliversFloat (.ifloatrz g s1 d) g d 3 s (fpOfInt 1 a)
    ∧ Delivers (.ifloatrzflags g s1 d) g d 3 s (fpOfInt 1 a).flags
    ∧ DeliversFloat (.ufloat g s1 d) g d 3 s (fpOfUInt mode a)
    ∧ Delivers (.ufloatflags g s1 d) g d 3 s (fpOfUInt mode a).flags
    ∧ DeliversFloat (.ufloatrz g s1 d) g d 3 s (fpOfUInt 1 a)
    ∧ Delivers (.ufloatrzflags g s1 d) g d 3 s (fpOfUInt 1 a).flags
    ∧ DeliversFloat (.feql g s1 s2 d) g d 1 s (fpEql a b)
    ∧ Delivers (.feqlflags g s1 s2 d) g d 1 s (fpEql a b).flags
    ∧ DeliversFloat (.fneq g s1 s2 d) g d 1 s (fpNeq a b)
    ∧ Delivers (.fneqflags g s1 s2 d) g d 1 s (fpNeq a b).flags
    ∧ DeliversFloat (.fgtr g s1 s2 d) g d 1 s (fpGtr a b)
    ∧ Delivers (.fgtrflags g s1 s2 d) g d 1 s (fpGtr a b).flags
    ∧ DeliversFloat (.fgeq g s1 s2 d) g d 1 s (fpGeq a b)
    ∧ Delivers (.fgeqflags g s1 s2 d) g d 1 s (fpGeq a b).flags
    ∧ DeliversFloat (.fles g s1 s2 d) g d 1 s (fpGtr b a)
    ∧ Delivers (.flesflags g s1 s2 d) g d 1 s (fpGtr b a).flags
    ∧ DeliversFloat (.fleq g s1 s2 d) g d 1 s (fpGeq b a)
    ∧ Delivers (.fleqflags g s1 s2 d) g d 1 s (fpGeq b a).flags

/-- Rounding in each mode (R364): the integer chosen for `m / 2^k` is next to it; in mode 0 the nearest, of two the even
one; in mode 1 the one nearer zero; in modes 2 and 3 the one above and below with the sign; and inexact exactly where it
is not `m / 2^k`. The meanings of modes 0, 1 and 3 are D6 (log 44); R38 evidences mode 2 alone. An exact value `m * 2^e`
is rounded by it to a single, with overflow, flush to zero and flags as R362 and R364 say; that tininess is decided after
rounding, so that a value which rounds up to 2^-126 is delivered with INX alone, is the model's choice (log 22), and that
a flushed result is +0 is D15 (log 22). -/
def Obligations.RoundingChoosesByMode : Prop :=
  ∀ (mode : BitVec 2) (sign : Bool) (m k : Nat),
    let r := roundShift mode sign m k
    (r.2 = true ↔ r.1 * 2 ^ k ≠ m) ∧ r.1 * 2 ^ k < m + 2 ^ k ∧ m < r.1 * 2 ^ k + 2 ^ k
    ∧ (mode = 0 → 2 * (r.1 * 2 ^ k) ≤ 2 * m + 2 ^ k ∧ 2 * m ≤ 2 * (r.1 * 2 ^ k) + 2 ^ k
      ∧ (r.2 = true → 2 * (r.1 * 2 ^ k) = 2 * m + 2 ^ k ∨ 2 * m = 2 * (r.1 * 2 ^ k) + 2 ^ k → r.1 % 2 = 0))
    ∧ (mode = 1 → r.1 * 2 ^ k ≤ m)
    ∧ (mode = 2 → if sign then r.1 * 2 ^ k ≤ m else m ≤ r.1 * 2 ^ k)
    ∧ (mode = 3 → if sign then m ≤ r.1 * 2 ^ k else r.1 * 2 ^ k ≤ m)
    ∧ ∀ e : Int, 0 < m →
      RoundsTo mode sign (m * 2 ^ (e + 149).toNat) (2 ^ (-(e + 149)).toNat) (roundPack mode sign m e)

/-- Addition, subtraction, multiplication, division and square root. A denormalized operand counts as the zero of its sign
and sets IFZ (R361); the first NaN operand comes out quiet, with INV where one is signalling (R363). Else the result is
the exact sum, difference, product, quotient or root, rounded (R362, R364), or what R363 and R364 say of zeros and
infinities; DBZ for a finite number that is divided by zero. The zero's sign, the flushed result's sign and the choice of
NaN are D14, D15 and D16, signs of exact zeros and results with infinities IEEE-754's (log 22), the modes D6 (log 44). -/
def Obligations.FloatSpecialOperands : Prop :=
  ∀ (mode : BitVec 2) (a b : Word),
    (∀ f : Word → Word → FpOut, f ∈ [fpAdd mode, fpSub mode, fpMul mode, fpDiv mode] →
      (isNaN a = true → (f a b).value = a ||| 0x00400000)
      ∧ (isNaN a = false → isNaN b = true → (f a b).value = b ||| 0x00400000)
      ∧ (isNaN a = true ∨ isNaN b = true →
        ((f a b).flags.getLsbD 4 = true ↔ isSNaN a = true ∨ isSNaN b = true))
      ∧ (isDenorm a = true → (f a b).flags.getLsbD 5 = true ∧ (f a b).value = (f (a &&& 0x80000000) b).value)
      ∧ (isDenorm b = true → (f a b).flags.getLsbD 5 = true ∧ (f a b).value = (f a (b &&& 0x80000000)).value)
      ∧ (isDenorm a = false → isDenorm b = false → (f a b).flags.getLsbD 5 = false))
    ∧ (isNaN a = false → isNaN b = false →
      SumOf mode a b (fpAdd mode a b).noIfz ∧ SumOf mode a (b ^^^ 0x80000000) (fpSub mode a b).noIfz
      ∧ ProductOf mode a b (fpMul mode a b).noIfz ∧ QuotientOf mode a b (fpDiv mode a b).noIfz)
    ∧ (isNaN a = true → fpSqrt mode a = ⟨a ||| 0x00400000, if isSNaN a then 0x10 else 0⟩)
    ∧ (isNaN a = false → RootOf mode a (fpSqrt mode a).noIfz
      ∧ ((fpSqrt mode a).flags.getLsbD 5 = true ↔ isDenorm a = true))

/-- Between numbers fgtr holds exactly where the first is the greater, feql where they are equal, +0 and -0 as well, fgeq
where one of these, and fneq where not feql; a denormalized number counts as zero. None of feql, fgtr, fgeq holds where
an operand is a NaN (R421, R422), nor does fneq then (D18). The flags: IFZ exactly for a denormalized operand; INV for
fgtr and fgeq exactly for a NaN operand, and for feql and fneq exactly for a signalling one, which is IEEE-754's (R421);
no other. The flags forms deliver them and the others add them to PCSW, with fles and fleq those of fgtr and fgeq. -/
def Obligations.FloatComparisonsAgree : Prop :=
  ∀ a b : Word,
    let ifz : Word := if isDenorm a ∨ isDenorm b then 0x20 else 0
    let quiet : Word := if isNaN a ∨ isNaN b then 0x10 else 0
    let signalling : Word := if isSNaN a ∨ isSNaN b then 0x10 else 0
    (isNaN a = false → isNaN b = false →
      (fpGtr a b).value + (fpEql a b).value + (fpGtr b a).value = 1
      ∧ (fpGeq a b).value = (fpGtr a b).value + (fpEql a b).value
      ∧ (fpNeq a b).value + (fpEql a b).value = 1
      ∧ (fpGtr a b).value = (if fpScaled b < fpScaled a then 1 else 0)
      ∧ (fpEql a b).value = (if fpScaled a = fpScaled b then 1 else 0)
      ∧ (isDenorm a = false → isDenorm b = false →
        (a.getLsbD 31 = false → b.getLsbD 31 = false → ((fpGtr a b).value = 1 ↔ b < a))
        ∧ (a.getLsbD 31 = true → b.getLsbD 31 = true → ((fpGtr a b).value = 1 ↔ a < b))
        ∧ (a.getLsbD 31 = false → b.getLsbD 31 = true →
          ((fpGtr a b).value = 1 ↔ ¬(a = 0 ∧ b = 0x80000000)))))
    ∧ (isNaN a = true ∨ isNaN b = true →
      (fpGtr a b).value = 0 ∧ (fpEql a b).value = 0 ∧ (fpGeq a b).value = 0 ∧ (fpNeq a b).value = 0)
    ∧ (fpEql 0x00000000 0x80000000).value = 1
    ∧ (fpGtr a b).flags = ifz ||| quiet ∧ (fpGeq a b).flags = ifz ||| quiet
    ∧ (fpEql a b).flags = ifz ||| signalling ∧ (fpNeq a b).flags = ifz ||| signalling
    ∧ ∀ (g s1 s2 d : Reg) (s : State), s.reg s1 = a → s.reg s2 = b →
      DeliversFloat (.fgtr g s1 s2 d) g d 1 s ⟨(fpGtr a b).value, ifz ||| quiet⟩
      ∧ DeliversFloat (.fgeq g s1 s2 d) g d 1 s ⟨(fpGeq a b).value, ifz ||| quiet⟩
      ∧ DeliversFloat (.fles g s1 s2 d) g d 1 s ⟨(fpGtr b a).value, ifz ||| quiet⟩
      ∧ DeliversFloat (.fleq g s1 s2 d) g d 1 s ⟨(fpGeq b a).value, ifz ||| quiet⟩
      ∧ DeliversFloat (.feql g s1 s2 d) g d 1 s ⟨(fpEql a b).value, ifz ||| signalling⟩
      ∧ DeliversFloat (.fneq g s1 s2 d) g d 1 s ⟨(fpNeq a b).value, ifz ||| signalling⟩
      ∧ Delivers (.fgtrflags g s1 s2 d) g d 1 s (ifz ||| quiet)
      ∧ Delivers (.fgeqflags g s1 s2 d) g d 1 s (ifz ||| quiet)
      ∧ Delivers (.flesflags g s1 s2 d) g d 1 s (ifz ||| quiet)
      ∧ Delivers (.fleqflags g s1 s2 d) g d 1 s (ifz ||| quiet)
      ∧ Delivers (.feqlflags g s1 s2 d) g d 1 s (ifz ||| signalling)
      ∧ Delivers (.fneqflags g s1 s2 d) g d 1 s (ifz ||| signalling)

/-- Conversion to an integer, signed or unsigned (R391): NaN gives 0 with INV; else the rounded value, or the nearest end of
the range where the operand lies beyond it, with INV; the rz form truncates every other normalized number. Conversion
from an integer (R392): 0 gives +0, any other integer is rounded to a single. fabsval (R366; D17 for -0) and fsign
(R374). The modes are D6 (log 44). -/
def Obligations.ConversionTruncatesAndClips : Prop :=
  ∀ a : Word,
    (isNaN a = true → fpToInt 1 a = ⟨0, 0x10⟩)
    ∧ (∀ mode, isNaN a = false → 158 ≤ fExp a → a ≠ 0xCF000000 →
      fpToInt mode a = ⟨if a.getLsbD 31 then 0x80000000 else 0x7FFFFFFF, 0x10⟩)
    ∧ (fExp a < 158 → 0 < fExp a → ((fpToInt 1 a).value.toInt.natAbs =
        if 150 ≤ fExp a then (2 ^ 23 + fFrac a) * 2 ^ (fExp a - 150) else (2 ^ 23 + fFrac a) / 2 ^ (150 - fExp a))
      ∧ ((fpToInt 1 a).value.toInt < 0 → a.getLsbD 31 = true)
      ∧ (0 < (fpToInt 1 a).value.toInt → a.getLsbD 31 = false))
    ∧ (∀ mode, (isNaN a = true → fpToInt mode a = ⟨0, 0x10⟩ ∧ fpToUInt mode a = ⟨0, 0x10⟩)
      ∧ (isNaN a = false → FixesTo mode (-2 ^ 31) (2 ^ 31 - 1) a (fpToInt mode a)
        ∧ FixesTo mode 0 (2 ^ 32 - 1) a (fpToUInt mode a)))
    ∧ (∀ mode, fpOfInt mode 0 = ⟨0, 0⟩ ∧ fpOfUInt mode 0 = ⟨0, 0⟩
      ∧ (a ≠ 0 → RoundsTo mode (decide (a.toInt < 0)) (a.toInt.natAbs * 2 ^ 149) 1 (fpOfInt mode a)
        ∧ RoundsTo mode false (a.toNat * 2 ^ 149) 1 (fpOfUInt mode a)))
    ∧ fpAbs a = (if isNaN a then ⟨a ||| 0x00400000, if isSNaN a then 0x10 else 0⟩
      else if isDenorm a then ⟨0, 0x20⟩ else ⟨BitVec.ofNat 32 (a.toNat % 2 ^ 31), 0⟩)
    ∧ fpSign a = (if isNaN a then ⟨0, 0x10⟩ else if isDenorm a then ⟨0, 0x20⟩
      else ⟨BitVec.ofInt 32 (fpScaled a).sign, 0⟩)
end

