-- ==== Sys2Proof/Laws/Memory.lean ====
section
/-! SUPPORT. SDRAM: reads after writes, and the canonical form that every operation keeps. -/
namespace Sys2Proof.Machine

/-! ### The canonical form -/

theorem mem_wf_cons (a : Nat) (b : Byte) (m : Mem) :
    Mem.wf ((a, b) :: m) = true ↔
      a < 2 ^ 32 ∧ b ≠ Mem.unlisted ∧ (∀ p ∈ m, a < p.1) ∧ Mem.wf m = true := by
  induction m generalizing a b with
  | nil => simp [Mem.wf]
  | cons q m ih =>
    obtain ⟨a', b'⟩ := q
    simp only [Mem.wf, Bool.and_eq_true, decide_eq_true_eq, ih, List.mem_cons, forall_eq_or_imp]
    constructor
    · rintro ⟨⟨h1, h2⟩, h3, h4, h5, h6⟩
      exact ⟨by omega, h2, ⟨h1, fun p hp => lt_trans h1 (h5 p hp)⟩, h3, h4, h5, h6⟩
    · rintro ⟨h1, h2, ⟨h3, -⟩, h4⟩
      exact ⟨⟨h3, h2⟩, h4⟩

theorem mem_write_keys (m : Mem) (a : Nat) (b : Byte) : ∀ p ∈ m.write a b, p.1 = a ∨ p ∈ m := by
  induction m with
  | nil => intro p; simp only [Mem.write]; split <;> simp +contextual
  | cons q m ih =>
    obtain ⟨a', b'⟩ := q
    intro p hp
    simp only [Mem.write] at hp
    split_ifs at hp with c1 c2 c3 c4
    · exact .inr hp
    · rcases List.mem_cons.1 hp with rfl | hp
      · exact .inl rfl
      · exact .inr hp
    · exact .inr (List.mem_cons_of_mem _ hp)
    · rcases List.mem_cons.1 hp with rfl | hp
      · exact .inl rfl
      · exact .inr (List.mem_cons_of_mem _ hp)
    · rcases List.mem_cons.1 hp with rfl | hp
      · exact .inr List.mem_cons_self
      · exact (ih p hp).imp id (List.mem_cons_of_mem _)

theorem mem_write_wf (m : Mem) (a : Nat) (b : Byte) (hm : m.wf = true) (ha : a < 2 ^ 32) :
    (m.write a b).wf = true := by
  induction m with
  | nil => simp only [Mem.write]; split <;> simp_all [Mem.wf]
  | cons q m ih =>
    obtain ⟨a', b'⟩ := q
    obtain ⟨h1, h2, h3, h4⟩ := (mem_wf_cons ..).1 hm
    simp only [Mem.write]
    split_ifs with c1 c2 c3 c4
    · exact hm
    · exact (mem_wf_cons ..).2 ⟨ha, c2, by
        simp only [List.mem_cons, forall_eq_or_imp]
        exact ⟨c1, fun p hp => lt_trans c1 (h3 p hp)⟩, hm⟩
    · exact h4
    · exact (mem_wf_cons ..).2 ⟨ha, c4, fun p hp => c3 ▸ h3 p hp, h4⟩
    · refine (mem_wf_cons ..).2 ⟨h1, h2, fun p hp => ?_, ih h4⟩
      rcases mem_write_keys m a b p hp with h | h
      · omega
      · exact h3 p h

/-! ### Reads after writes -/

theorem mem_read_absent (m : Mem) (a : Nat) (h : ∀ p ∈ m, a < p.1) : m.read a = Mem.unlisted := by
  induction m with
  | nil => rfl
  | cons q m ih =>
    obtain ⟨a', b'⟩ := q
    simp only [List.mem_cons, forall_eq_or_imp] at h
    rw [Mem.read, if_neg (Nat.ne_of_lt h.1), ih h.2]

theorem mem_read_write (m : Mem) (a c : Nat) (b : Byte) (hm : m.wf = true) :
    (m.write a b).read c = if c = a then b else m.read c := by
  induction m with
  | nil =>
    simp only [Mem.write, Mem.read]
    split_ifs with h1 h2 <;> simp_all [Mem.read]
  | cons q m ih =>
    obtain ⟨a', b'⟩ := q
    obtain ⟨-, -, h3, h4⟩ := (mem_wf_cons ..).1 hm
    simp only [Mem.write]
    split_ifs with c1 c2 c3 c4 c5 c6 c7 c8 c9
    · subst c3
      rw [Mem.read, if_neg (by omega), mem_read_absent m c (fun p hp => lt_trans c1 (h3 p hp))]
      exact c2.symm
    · rfl
    · simp [Mem.read, c4]
    · simp [Mem.read, c4]
    · subst c5 c7
      rw [mem_read_absent m c h3]
      exact c6.symm
    · subst c5
      simp [Mem.read, c7]
    · simp [Mem.read, c8]
    · subst c5
      simp [Mem.read, c8]
    · subst c9
      rw [Mem.read, if_neg c5, ih h4, if_pos rfl]
    · simp only [Mem.read, ih h4, if_neg c9]

/-! ### Runs of bytes -/

theorem mem_writeList_wf (m : Mem) (a : Word) (bs : List Byte) (hm : m.wf = true) : (m.writeList a bs).wf = true := by
  induction bs generalizing m a with
  | nil => exact hm
  | cons b bs ih => exact ih _ _ (mem_write_wf m _ b hm a.isLt)

/-- A byte outside the run is unchanged. -/
theorem mem_read_writeList_other (m : Mem) (a c : Word) (bs : List Byte) (hm : m.wf = true)
    (h : bs.length ≤ (c - a).toNat) : (m.writeList a bs).read c.toNat = m.read c.toNat := by
  induction bs generalizing m a with
  | nil => rfl
  | cons b bs ih =>
    simp only [List.length_cons] at h
    have hne : c ≠ a := by rintro rfl; simp at h
    have hstep : (c - (a + 1)).toNat + 1 = (c - a).toNat := by
      have := c.isLt; have := a.isLt; bv_omega
    rw [Mem.writeList, ih _ _ (mem_write_wf m _ b hm a.isLt) (by omega), mem_read_write m _ _ b hm,
      if_neg (fun e => hne (BitVec.eq_of_toNat_eq e))]

/-- Byte `i` of the run is read back. -/
theorem mem_read_writeList_at (m : Mem) (a : Word) (bs : List Byte) (i : Nat) (hm : m.wf = true)
    (hi : i < bs.length) (hn : bs.length ≤ 2 ^ 32) :
    (m.writeList a bs).read (a + BitVec.ofNat 32 i).toNat = bs[i] := by
  induction bs generalizing m a i with
  | nil => simp at hi
  | cons b bs ih =>
    simp only [List.length_cons] at hi hn
    have hm' := mem_write_wf m a.toNat b hm a.isLt
    cases i with
    | zero =>
      rw [Mem.writeList, mem_read_writeList_other _ _ _ _ hm' (by bv_omega), mem_read_write m _ _ b hm]
      simp
    | succ i =>
      have : a + BitVec.ofNat 32 (i + 1) = a + 1 + BitVec.ofNat 32 i := by
        rw [BitVec.add_assoc]; congr 1; bv_omega
      rw [Mem.writeList, this, ih _ _ i hm' (by omega) (by omega)]
      rfl

theorem mem_writeBlock_wf (m : Mem) (k : BitVec 26) (d : Block) (hm : m.wf = true) : (m.writeBlock k d).wf = true :=
  mem_writeList_wf m _ _ hm

theorem drainAll_wf (cs : List CopyBack) (m : Mem) (hm : m.wf = true) : (drainAll cs m).wf = true := by
  induction cs with
  | nil => exact hm
  | cons c cs ih => exact mem_writeBlock_wf _ _ _ ih

/-! ### The machine's memory operations -/

theorem reset_mem_wf : State.reset.mem.wf = true := rfl

theorem drained_mem_wf (s : State) (hm : s.mem.wf = true) : s.drained.mem.wf = true := drainAll_wf s.copyback s.mem hm

theorem drainOldest_mem_wf (s : State) (hm : s.mem.wf = true) : s.drainOldest.mem.wf = true := by
  unfold State.drainOldest
  split
  · exact mem_writeBlock_wf _ _ _ hm
  · exact hm

end Sys2Proof.Machine
end

