-- ==== Sys2Proof/Laws/State.lean ====
section
/-! SUPPORT. One lemma per field and state update, so that no later proof unfolds a record update. -/
namespace Sys2Proof.Machine

/-! ### drawn -/

@[simp] theorem drawn_regs (s : State) : s.drawn.regs = s.regs := rfl
@[simp] theorem drawn_pc (s : State) : s.drawn.pc = s.pc := rfl
@[simp] theorem drawn_pcsw (s : State) : s.drawn.pcsw = s.pcsw := rfl
@[simp] theorem drawn_dpc (s : State) : s.drawn.dpc = s.dpc := rfl
@[simp] theorem drawn_spc (s : State) : s.drawn.spc = s.spc := rfl
@[simp] theorem drawn_ccMaster (s : State) : s.drawn.ccMaster = s.ccMaster := rfl
@[simp] theorem drawn_ccSlave (s : State) : s.drawn.ccSlave = s.ccSlave := rfl
@[simp] theorem drawn_results (s : State) : s.drawn.results = s.results := rfl
@[simp] theorem drawn_flagUpdates (s : State) : s.drawn.flagUpdates = s.flagUpdates := rfl
@[simp] theorem drawn_redirects (s : State) : s.drawn.redirects = s.redirects := rfl
@[simp] theorem drawn_mem (s : State) : s.drawn.mem = s.mem := rfl
@[simp] theorem drawn_dcache (s : State) : s.drawn.dcache = s.dcache := rfl
@[simp] theorem drawn_copyback (s : State) : s.drawn.copyback = s.copyback := rfl
@[simp] theorem drawn_fetches (s : State) : s.drawn.fetches = s.fetches := rfl
@[simp] theorem drawn_cacheEvents (s : State) : s.drawn.cacheEvents = s.cacheEvents := rfl
@[simp] theorem drawn_icache (s : State) : s.drawn.icache = s.icache := rfl
@[simp] theorem drawn_issue (s : State) : s.drawn.issue = s.issue := rfl
@[simp] theorem drawn_freeCount (s : State) : s.drawn.freeCount = s.freeCount + 1 := rfl
@[simp] theorem drawn_bdctl (s : State) : s.drawn.bdctl = s.bdctl := rfl
@[simp] theorem drawn_mmioBase (s : State) : s.drawn.mmioBase = s.mmioBase := rfl
@[simp] theorem drawn_dramLo (s : State) : s.drawn.dramLo = s.dramLo := rfl
@[simp] theorem drawn_dramHi (s : State) : s.drawn.dramHi = s.dramHi := rfl
@[simp] theorem drawn_dramClimit (s : State) : s.drawn.dramClimit = s.dramClimit := rfl
@[simp] theorem drawn_apert1Lo (s : State) : s.drawn.apert1Lo = s.apert1Lo := rfl
@[simp] theorem drawn_apert1Hi (s : State) : s.drawn.apert1Hi = s.apert1Hi := rfl

/-! ### issueResult -/

@[simp] theorem issueResult_regs (s : State) (d : Reg) (v : Word) (lat : Nat) : (s.issueResult d v lat).regs = s.regs := rfl
@[simp] theorem issueResult_pc (s : State) (d : Reg) (v : Word) (lat : Nat) : (s.issueResult d v lat).pc = s.pc := rfl
@[simp] theorem issueResult_pcsw (s : State) (d : Reg) (v : Word) (lat : Nat) : (s.issueResult d v lat).pcsw = s.pcsw := rfl
@[simp] theorem issueResult_dpc (s : State) (d : Reg) (v : Word) (lat : Nat) : (s.issueResult d v lat).dpc = s.dpc := rfl
@[simp] theorem issueResult_spc (s : State) (d : Reg) (v : Word) (lat : Nat) : (s.issueResult d v lat).spc = s.spc := rfl
@[simp] theorem issueResult_ccMaster (s : State) (d : Reg) (v : Word) (lat : Nat) : (s.issueResult d v lat).ccMaster = s.ccMaster := rfl
@[simp] theorem issueResult_ccSlave (s : State) (d : Reg) (v : Word) (lat : Nat) : (s.issueResult d v lat).ccSlave = s.ccSlave := rfl
@[simp] theorem issueResult_results (s : State) (d : Reg) (v : Word) (lat : Nat) : (s.issueResult d v lat).results = ⟨d, v, lat⟩ :: s.results := rfl
@[simp] theorem issueResult_flagUpdates (s : State) (d : Reg) (v : Word) (lat : Nat) : (s.issueResult d v lat).flagUpdates = s.flagUpdates := rfl
@[simp] theorem issueResult_redirects (s : State) (d : Reg) (v : Word) (lat : Nat) : (s.issueResult d v lat).redirects = s.redirects := rfl
@[simp] theorem issueResult_mem (s : State) (d : Reg) (v : Word) (lat : Nat) : (s.issueResult d v lat).mem = s.mem := rfl
@[simp] theorem issueResult_dcache (s : State) (d : Reg) (v : Word) (lat : Nat) : (s.issueResult d v lat).dcache = s.dcache := rfl
@[simp] theorem issueResult_copyback (s : State) (d : Reg) (v : Word) (lat : Nat) : (s.issueResult d v lat).copyback = s.copyback := rfl
@[simp] theorem issueResult_fetches (s : State) (d : Reg) (v : Word) (lat : Nat) : (s.issueResult d v lat).fetches = s.fetches := rfl
@[simp] theorem issueResult_cacheEvents (s : State) (d : Reg) (v : Word) (lat : Nat) : (s.issueResult d v lat).cacheEvents = s.cacheEvents := rfl
@[simp] theorem issueResult_icache (s : State) (d : Reg) (v : Word) (lat : Nat) : (s.issueResult d v lat).icache = s.icache := rfl
@[simp] theorem issueResult_issue (s : State) (d : Reg) (v : Word) (lat : Nat) : (s.issueResult d v lat).issue = s.issue := rfl
@[simp] theorem issueResult_freeCount (s : State) (d : Reg) (v : Word) (lat : Nat) : (s.issueResult d v lat).freeCount = s.freeCount := rfl
@[simp] theorem issueResult_bdctl (s : State) (d : Reg) (v : Word) (lat : Nat) : (s.issueResult d v lat).bdctl = s.bdctl := rfl
@[simp] theorem issueResult_mmioBase (s : State) (d : Reg) (v : Word) (lat : Nat) : (s.issueResult d v lat).mmioBase = s.mmioBase := rfl
@[simp] theorem issueResult_dramLo (s : State) (d : Reg) (v : Word) (lat : Nat) : (s.issueResult d v lat).dramLo = s.dramLo := rfl
@[simp] theorem issueResult_dramHi (s : State) (d : Reg) (v : Word) (lat : Nat) : (s.issueResult d v lat).dramHi = s.dramHi := rfl
@[simp] theorem issueResult_dramClimit (s : State) (d : Reg) (v : Word) (lat : Nat) : (s.issueResult d v lat).dramClimit = s.dramClimit := rfl
@[simp] theorem issueResult_apert1Lo (s : State) (d : Reg) (v : Word) (lat : Nat) : (s.issueResult d v lat).apert1Lo = s.apert1Lo := rfl
@[simp] theorem issueResult_apert1Hi (s : State) (d : Reg) (v : Word) (lat : Nat) : (s.issueResult d v lat).apert1Hi = s.apert1Hi := rfl

/-! ### countEvent -/

@[simp] theorem countEvent_regs (s : State) (k : Fin 16) (n : Nat) : (s.countEvent k n).regs = s.regs := rfl
@[simp] theorem countEvent_pc (s : State) (k : Fin 16) (n : Nat) : (s.countEvent k n).pc = s.pc := rfl
@[simp] theorem countEvent_pcsw (s : State) (k : Fin 16) (n : Nat) : (s.countEvent k n).pcsw = s.pcsw := rfl
@[simp] theorem countEvent_dpc (s : State) (k : Fin 16) (n : Nat) : (s.countEvent k n).dpc = s.dpc := rfl
@[simp] theorem countEvent_spc (s : State) (k : Fin 16) (n : Nat) : (s.countEvent k n).spc = s.spc := rfl
@[simp] theorem countEvent_ccMaster (s : State) (k : Fin 16) (n : Nat) : (s.countEvent k n).ccMaster = s.ccMaster := rfl
@[simp] theorem countEvent_ccSlave (s : State) (k : Fin 16) (n : Nat) : (s.countEvent k n).ccSlave = s.ccSlave := rfl
@[simp] theorem countEvent_results (s : State) (k : Fin 16) (n : Nat) : (s.countEvent k n).results = s.results := rfl
@[simp] theorem countEvent_flagUpdates (s : State) (k : Fin 16) (n : Nat) : (s.countEvent k n).flagUpdates = s.flagUpdates := rfl
@[simp] theorem countEvent_redirects (s : State) (k : Fin 16) (n : Nat) : (s.countEvent k n).redirects = s.redirects := rfl
@[simp] theorem countEvent_mem (s : State) (k : Fin 16) (n : Nat) : (s.countEvent k n).mem = s.mem := rfl
@[simp] theorem countEvent_dcache (s : State) (k : Fin 16) (n : Nat) : (s.countEvent k n).dcache = s.dcache := rfl
@[simp] theorem countEvent_copyback (s : State) (k : Fin 16) (n : Nat) : (s.countEvent k n).copyback = s.copyback := rfl
@[simp] theorem countEvent_fetches (s : State) (k : Fin 16) (n : Nat) : (s.countEvent k n).fetches = s.fetches := rfl
@[simp] theorem countEvent_cacheEvents (s : State) (k : Fin 16) (n : Nat) : (s.countEvent k n).cacheEvents = s.cacheEvents.set k (s.cacheEvents[k] + n) := rfl
@[simp] theorem countEvent_icache (s : State) (k : Fin 16) (n : Nat) : (s.countEvent k n).icache = s.icache := rfl
@[simp] theorem countEvent_issue (s : State) (k : Fin 16) (n : Nat) : (s.countEvent k n).issue = s.issue := rfl
@[simp] theorem countEvent_freeCount (s : State) (k : Fin 16) (n : Nat) : (s.countEvent k n).freeCount = s.freeCount := rfl
@[simp] theorem countEvent_bdctl (s : State) (k : Fin 16) (n : Nat) : (s.countEvent k n).bdctl = s.bdctl := rfl
@[simp] theorem countEvent_mmioBase (s : State) (k : Fin 16) (n : Nat) : (s.countEvent k n).mmioBase = s.mmioBase := rfl
@[simp] theorem countEvent_dramLo (s : State) (k : Fin 16) (n : Nat) : (s.countEvent k n).dramLo = s.dramLo := rfl
@[simp] theorem countEvent_dramHi (s : State) (k : Fin 16) (n : Nat) : (s.countEvent k n).dramHi = s.dramHi := rfl
@[simp] theorem countEvent_dramClimit (s : State) (k : Fin 16) (n : Nat) : (s.countEvent k n).dramClimit = s.dramClimit := rfl
@[simp] theorem countEvent_apert1Lo (s : State) (k : Fin 16) (n : Nat) : (s.countEvent k n).apert1Lo = s.apert1Lo := rfl
@[simp] theorem countEvent_apert1Hi (s : State) (k : Fin 16) (n : Nat) : (s.countEvent k n).apert1Hi = s.apert1Hi := rfl

/-! ### cacheEvent -/

@[simp] theorem cacheEvent_regs (s : State) (k : Fin 16) : (s.cacheEvent k).regs = s.regs := rfl
@[simp] theorem cacheEvent_pc (s : State) (k : Fin 16) : (s.cacheEvent k).pc = s.pc := rfl
@[simp] theorem cacheEvent_pcsw (s : State) (k : Fin 16) : (s.cacheEvent k).pcsw = s.pcsw := rfl
@[simp] theorem cacheEvent_dpc (s : State) (k : Fin 16) : (s.cacheEvent k).dpc = s.dpc := rfl
@[simp] theorem cacheEvent_spc (s : State) (k : Fin 16) : (s.cacheEvent k).spc = s.spc := rfl
@[simp] theorem cacheEvent_ccMaster (s : State) (k : Fin 16) : (s.cacheEvent k).ccMaster = s.ccMaster := rfl
@[simp] theorem cacheEvent_ccSlave (s : State) (k : Fin 16) : (s.cacheEvent k).ccSlave = s.ccSlave := rfl
@[simp] theorem cacheEvent_results (s : State) (k : Fin 16) : (s.cacheEvent k).results = s.results := rfl
@[simp] theorem cacheEvent_flagUpdates (s : State) (k : Fin 16) : (s.cacheEvent k).flagUpdates = s.flagUpdates := rfl
@[simp] theorem cacheEvent_redirects (s : State) (k : Fin 16) : (s.cacheEvent k).redirects = s.redirects := rfl
@[simp] theorem cacheEvent_mem (s : State) (k : Fin 16) : (s.cacheEvent k).mem = s.mem := rfl
@[simp] theorem cacheEvent_dcache (s : State) (k : Fin 16) : (s.cacheEvent k).dcache = s.dcache := rfl
@[simp] theorem cacheEvent_copyback (s : State) (k : Fin 16) : (s.cacheEvent k).copyback = s.copyback := rfl
@[simp] theorem cacheEvent_fetches (s : State) (k : Fin 16) : (s.cacheEvent k).fetches = s.fetches := rfl
@[simp] theorem cacheEvent_cacheEvents (s : State) (k : Fin 16) : (s.cacheEvent k).cacheEvents = s.cacheEvents.set k (s.cacheEvents[k] + 1) := rfl
@[simp] theorem cacheEvent_icache (s : State) (k : Fin 16) : (s.cacheEvent k).icache = s.icache := rfl
@[simp] theorem cacheEvent_issue (s : State) (k : Fin 16) : (s.cacheEvent k).issue = s.issue := rfl
@[simp] theorem cacheEvent_freeCount (s : State) (k : Fin 16) : (s.cacheEvent k).freeCount = s.freeCount := rfl
@[simp] theorem cacheEvent_bdctl (s : State) (k : Fin 16) : (s.cacheEvent k).bdctl = s.bdctl := rfl
@[simp] theorem cacheEvent_mmioBase (s : State) (k : Fin 16) : (s.cacheEvent k).mmioBase = s.mmioBase := rfl
@[simp] theorem cacheEvent_dramLo (s : State) (k : Fin 16) : (s.cacheEvent k).dramLo = s.dramLo := rfl
@[simp] theorem cacheEvent_dramHi (s : State) (k : Fin 16) : (s.cacheEvent k).dramHi = s.dramHi := rfl
@[simp] theorem cacheEvent_dramClimit (s : State) (k : Fin 16) : (s.cacheEvent k).dramClimit = s.dramClimit := rfl
@[simp] theorem cacheEvent_apert1Lo (s : State) (k : Fin 16) : (s.cacheEvent k).apert1Lo = s.apert1Lo := rfl
@[simp] theorem cacheEvent_apert1Hi (s : State) (k : Fin 16) : (s.cacheEvent k).apert1Hi = s.apert1Hi := rfl

/-! ### startFetch -/

@[simp] theorem startFetch_regs (s : State) (b : BitVec 26) (p : Bool) : (s.startFetch b p).regs = s.regs := rfl
@[simp] theorem startFetch_pc (s : State) (b : BitVec 26) (p : Bool) : (s.startFetch b p).pc = s.pc := rfl
@[simp] theorem startFetch_pcsw (s : State) (b : BitVec 26) (p : Bool) : (s.startFetch b p).pcsw = s.pcsw := rfl
@[simp] theorem startFetch_dpc (s : State) (b : BitVec 26) (p : Bool) : (s.startFetch b p).dpc = s.dpc := rfl
@[simp] theorem startFetch_spc (s : State) (b : BitVec 26) (p : Bool) : (s.startFetch b p).spc = s.spc := rfl
@[simp] theorem startFetch_ccMaster (s : State) (b : BitVec 26) (p : Bool) : (s.startFetch b p).ccMaster = s.ccMaster := rfl
@[simp] theorem startFetch_ccSlave (s : State) (b : BitVec 26) (p : Bool) : (s.startFetch b p).ccSlave = s.ccSlave := rfl
@[simp] theorem startFetch_results (s : State) (b : BitVec 26) (p : Bool) : (s.startFetch b p).results = s.results := rfl
@[simp] theorem startFetch_flagUpdates (s : State) (b : BitVec 26) (p : Bool) : (s.startFetch b p).flagUpdates = s.flagUpdates := rfl
@[simp] theorem startFetch_redirects (s : State) (b : BitVec 26) (p : Bool) : (s.startFetch b p).redirects = s.redirects := rfl
@[simp] theorem startFetch_mem (s : State) (b : BitVec 26) (p : Bool) : (s.startFetch b p).mem = s.mem := rfl
@[simp] theorem startFetch_dcache (s : State) (b : BitVec 26) (p : Bool) : (s.startFetch b p).dcache = s.dcache := rfl
@[simp] theorem startFetch_copyback (s : State) (b : BitVec 26) (p : Bool) : (s.startFetch b p).copyback = s.copyback := rfl
@[simp] theorem startFetch_fetches (s : State) (b : BitVec 26) (p : Bool) : (s.startFetch b p).fetches = (⟨b, p⟩ :: s.fetches.filter fun f => decide (f.block ≠ b)).take 2 := rfl
@[simp] theorem startFetch_cacheEvents (s : State) (b : BitVec 26) (p : Bool) : (s.startFetch b p).cacheEvents = s.cacheEvents := rfl
@[simp] theorem startFetch_icache (s : State) (b : BitVec 26) (p : Bool) : (s.startFetch b p).icache = s.icache := rfl
@[simp] theorem startFetch_issue (s : State) (b : BitVec 26) (p : Bool) : (s.startFetch b p).issue = s.issue := rfl
@[simp] theorem startFetch_freeCount (s : State) (b : BitVec 26) (p : Bool) : (s.startFetch b p).freeCount = s.freeCount := rfl
@[simp] theorem startFetch_bdctl (s : State) (b : BitVec 26) (p : Bool) : (s.startFetch b p).bdctl = s.bdctl := rfl
@[simp] theorem startFetch_mmioBase (s : State) (b : BitVec 26) (p : Bool) : (s.startFetch b p).mmioBase = s.mmioBase := rfl
@[simp] theorem startFetch_dramLo (s : State) (b : BitVec 26) (p : Bool) : (s.startFetch b p).dramLo = s.dramLo := rfl
@[simp] theorem startFetch_dramHi (s : State) (b : BitVec 26) (p : Bool) : (s.startFetch b p).dramHi = s.dramHi := rfl
@[simp] theorem startFetch_dramClimit (s : State) (b : BitVec 26) (p : Bool) : (s.startFetch b p).dramClimit = s.dramClimit := rfl
@[simp] theorem startFetch_apert1Lo (s : State) (b : BitVec 26) (p : Bool) : (s.startFetch b p).apert1Lo = s.apert1Lo := rfl
@[simp] theorem startFetch_apert1Hi (s : State) (b : BitVec 26) (p : Bool) : (s.startFetch b p).apert1Hi = s.apert1Hi := rfl

/-! ### discardPrefetches -/

@[simp] theorem discardPrefetches_regs (s : State) : s.discardPrefetches.regs = s.regs := rfl
@[simp] theorem discardPrefetches_pc (s : State) : s.discardPrefetches.pc = s.pc := rfl
@[simp] theorem discardPrefetches_pcsw (s : State) : s.discardPrefetches.pcsw = s.pcsw := rfl
@[simp] theorem discardPrefetches_dpc (s : State) : s.discardPrefetches.dpc = s.dpc := rfl
@[simp] theorem discardPrefetches_spc (s : State) : s.discardPrefetches.spc = s.spc := rfl
@[simp] theorem discardPrefetches_ccMaster (s : State) : s.discardPrefetches.ccMaster = s.ccMaster := rfl
@[simp] theorem discardPrefetches_ccSlave (s : State) : s.discardPrefetches.ccSlave = s.ccSlave := rfl
@[simp] theorem discardPrefetches_results (s : State) : s.discardPrefetches.results = s.results := rfl
@[simp] theorem discardPrefetches_flagUpdates (s : State) : s.discardPrefetches.flagUpdates = s.flagUpdates := rfl
@[simp] theorem discardPrefetches_redirects (s : State) : s.discardPrefetches.redirects = s.redirects := rfl
@[simp] theorem discardPrefetches_mem (s : State) : s.discardPrefetches.mem = s.mem := rfl
@[simp] theorem discardPrefetches_dcache (s : State) : s.discardPrefetches.dcache = s.dcache := rfl
@[simp] theorem discardPrefetches_copyback (s : State) : s.discardPrefetches.copyback = s.copyback := rfl
@[simp] theorem discardPrefetches_fetches (s : State) : s.discardPrefetches.fetches = s.fetches.filter fun f => !f.prefetch := rfl
@[simp] theorem discardPrefetches_cacheEvents (s : State) : s.discardPrefetches.cacheEvents = s.cacheEvents := rfl
@[simp] theorem discardPrefetches_icache (s : State) : s.discardPrefetches.icache = s.icache := rfl
@[simp] theorem discardPrefetches_issue (s : State) : s.discardPrefetches.issue = s.issue := rfl
@[simp] theorem discardPrefetches_freeCount (s : State) : s.discardPrefetches.freeCount = s.freeCount := rfl
@[simp] theorem discardPrefetches_bdctl (s : State) : s.discardPrefetches.bdctl = s.bdctl := rfl
@[simp] theorem discardPrefetches_mmioBase (s : State) : s.discardPrefetches.mmioBase = s.mmioBase := rfl
@[simp] theorem discardPrefetches_dramLo (s : State) : s.discardPrefetches.dramLo = s.dramLo := rfl
@[simp] theorem discardPrefetches_dramHi (s : State) : s.discardPrefetches.dramHi = s.dramHi := rfl
@[simp] theorem discardPrefetches_dramClimit (s : State) : s.discardPrefetches.dramClimit = s.dramClimit := rfl
@[simp] theorem discardPrefetches_apert1Lo (s : State) : s.discardPrefetches.apert1Lo = s.apert1Lo := rfl
@[simp] theorem discardPrefetches_apert1Hi (s : State) : s.discardPrefetches.apert1Hi = s.apert1Hi := rfl

/-! ### setDSet -/

@[simp] theorem setDSet_regs (s : State) (k : Fin 32) (c : CacheSet 21) : (s.setDSet k c).regs = s.regs := rfl
@[simp] theorem setDSet_pc (s : State) (k : Fin 32) (c : CacheSet 21) : (s.setDSet k c).pc = s.pc := rfl
@[simp] theorem setDSet_pcsw (s : State) (k : Fin 32) (c : CacheSet 21) : (s.setDSet k c).pcsw = s.pcsw := rfl
@[simp] theorem setDSet_dpc (s : State) (k : Fin 32) (c : CacheSet 21) : (s.setDSet k c).dpc = s.dpc := rfl
@[simp] theorem setDSet_spc (s : State) (k : Fin 32) (c : CacheSet 21) : (s.setDSet k c).spc = s.spc := rfl
@[simp] theorem setDSet_ccMaster (s : State) (k : Fin 32) (c : CacheSet 21) : (s.setDSet k c).ccMaster = s.ccMaster := rfl
@[simp] theorem setDSet_ccSlave (s : State) (k : Fin 32) (c : CacheSet 21) : (s.setDSet k c).ccSlave = s.ccSlave := rfl
@[simp] theorem setDSet_results (s : State) (k : Fin 32) (c : CacheSet 21) : (s.setDSet k c).results = s.results := rfl
@[simp] theorem setDSet_flagUpdates (s : State) (k : Fin 32) (c : CacheSet 21) : (s.setDSet k c).flagUpdates = s.flagUpdates := rfl
@[simp] theorem setDSet_redirects (s : State) (k : Fin 32) (c : CacheSet 21) : (s.setDSet k c).redirects = s.redirects := rfl
@[simp] theorem setDSet_mem (s : State) (k : Fin 32) (c : CacheSet 21) : (s.setDSet k c).mem = s.mem := rfl
@[simp] theorem setDSet_dcache (s : State) (k : Fin 32) (c : CacheSet 21) : (s.setDSet k c).dcache = s.dcache.set k c := rfl
@[simp] theorem setDSet_copyback (s : State) (k : Fin 32) (c : CacheSet 21) : (s.setDSet k c).copyback = s.copyback := rfl
@[simp] theorem setDSet_fetches (s : State) (k : Fin 32) (c : CacheSet 21) : (s.setDSet k c).fetches = s.fetches := rfl
@[simp] theorem setDSet_cacheEvents (s : State) (k : Fin 32) (c : CacheSet 21) : (s.setDSet k c).cacheEvents = s.cacheEvents := rfl
@[simp] theorem setDSet_icache (s : State) (k : Fin 32) (c : CacheSet 21) : (s.setDSet k c).icache = s.icache := rfl
@[simp] theorem setDSet_issue (s : State) (k : Fin 32) (c : CacheSet 21) : (s.setDSet k c).issue = s.issue := rfl
@[simp] theorem setDSet_freeCount (s : State) (k : Fin 32) (c : CacheSet 21) : (s.setDSet k c).freeCount = s.freeCount := rfl
@[simp] theorem setDSet_bdctl (s : State) (k : Fin 32) (c : CacheSet 21) : (s.setDSet k c).bdctl = s.bdctl := rfl
@[simp] theorem setDSet_mmioBase (s : State) (k : Fin 32) (c : CacheSet 21) : (s.setDSet k c).mmioBase = s.mmioBase := rfl
@[simp] theorem setDSet_dramLo (s : State) (k : Fin 32) (c : CacheSet 21) : (s.setDSet k c).dramLo = s.dramLo := rfl
@[simp] theorem setDSet_dramHi (s : State) (k : Fin 32) (c : CacheSet 21) : (s.setDSet k c).dramHi = s.dramHi := rfl
@[simp] theorem setDSet_dramClimit (s : State) (k : Fin 32) (c : CacheSet 21) : (s.setDSet k c).dramClimit = s.dramClimit := rfl
@[simp] theorem setDSet_apert1Lo (s : State) (k : Fin 32) (c : CacheSet 21) : (s.setDSet k c).apert1Lo = s.apert1Lo := rfl
@[simp] theorem setDSet_apert1Hi (s : State) (k : Fin 32) (c : CacheSet 21) : (s.setDSet k c).apert1Hi = s.apert1Hi := rfl

/-! ### piTransaction -/

@[simp] theorem piTransaction_regs (s : State) (op : PiOp) (a d : Word) : (s.piTransaction op a d).regs = s.regs := rfl
@[simp] theorem piTransaction_pc (s : State) (op : PiOp) (a d : Word) : (s.piTransaction op a d).pc = s.pc := rfl
@[simp] theorem piTransaction_pcsw (s : State) (op : PiOp) (a d : Word) : (s.piTransaction op a d).pcsw = s.pcsw := rfl
@[simp] theorem piTransaction_dpc (s : State) (op : PiOp) (a d : Word) : (s.piTransaction op a d).dpc = s.dpc := rfl
@[simp] theorem piTransaction_spc (s : State) (op : PiOp) (a d : Word) : (s.piTransaction op a d).spc = s.spc := rfl
@[simp] theorem piTransaction_ccMaster (s : State) (op : PiOp) (a d : Word) : (s.piTransaction op a d).ccMaster = s.ccMaster := rfl
@[simp] theorem piTransaction_ccSlave (s : State) (op : PiOp) (a d : Word) : (s.piTransaction op a d).ccSlave = s.ccSlave := rfl
@[simp] theorem piTransaction_results (s : State) (op : PiOp) (a d : Word) : (s.piTransaction op a d).results = s.results := rfl
@[simp] theorem piTransaction_flagUpdates (s : State) (op : PiOp) (a d : Word) : (s.piTransaction op a d).flagUpdates = s.flagUpdates := rfl
@[simp] theorem piTransaction_redirects (s : State) (op : PiOp) (a d : Word) : (s.piTransaction op a d).redirects = s.redirects := rfl
@[simp] theorem piTransaction_mem (s : State) (op : PiOp) (a d : Word) : (s.piTransaction op a d).mem = s.mem := rfl
@[simp] theorem piTransaction_dcache (s : State) (op : PiOp) (a d : Word) : (s.piTransaction op a d).dcache = s.dcache := rfl
@[simp] theorem piTransaction_copyback (s : State) (op : PiOp) (a d : Word) : (s.piTransaction op a d).copyback = s.copyback := rfl
@[simp] theorem piTransaction_fetches (s : State) (op : PiOp) (a d : Word) : (s.piTransaction op a d).fetches = s.fetches := rfl
@[simp] theorem piTransaction_cacheEvents (s : State) (op : PiOp) (a d : Word) : (s.piTransaction op a d).cacheEvents = s.cacheEvents := rfl
@[simp] theorem piTransaction_icache (s : State) (op : PiOp) (a d : Word) : (s.piTransaction op a d).icache = s.icache := rfl
@[simp] theorem piTransaction_issue (s : State) (op : PiOp) (a d : Word) : (s.piTransaction op a d).issue = s.issue := rfl
@[simp] theorem piTransaction_freeCount (s : State) (op : PiOp) (a d : Word) : (s.piTransaction op a d).freeCount = s.freeCount := rfl
@[simp] theorem piTransaction_bdctl (s : State) (op : PiOp) (a d : Word) : (s.piTransaction op a d).bdctl = s.bdctl := rfl
@[simp] theorem piTransaction_mmioBase (s : State) (op : PiOp) (a d : Word) : (s.piTransaction op a d).mmioBase = s.mmioBase := rfl
@[simp] theorem piTransaction_dramLo (s : State) (op : PiOp) (a d : Word) : (s.piTransaction op a d).dramLo = s.dramLo := rfl
@[simp] theorem piTransaction_dramHi (s : State) (op : PiOp) (a d : Word) : (s.piTransaction op a d).dramHi = s.dramHi := rfl
@[simp] theorem piTransaction_dramClimit (s : State) (op : PiOp) (a d : Word) : (s.piTransaction op a d).dramClimit = s.dramClimit := rfl
@[simp] theorem piTransaction_apert1Lo (s : State) (op : PiOp) (a d : Word) : (s.piTransaction op a d).apert1Lo = s.apert1Lo := rfl
@[simp] theorem piTransaction_apert1Hi (s : State) (op : PiOp) (a d : Word) : (s.piTransaction op a d).apert1Hi = s.apert1Hi := rfl

/-! ### issueFlags -/

@[simp] theorem issueFlags_regs (s : State) (b : Word) (lat : Nat) : (s.issueFlags b lat).regs = s.regs := by unfold State.issueFlags; split <;> rfl
@[simp] theorem issueFlags_pc (s : State) (b : Word) (lat : Nat) : (s.issueFlags b lat).pc = s.pc := by unfold State.issueFlags; split <;> rfl
@[simp] theorem issueFlags_pcsw (s : State) (b : Word) (lat : Nat) : (s.issueFlags b lat).pcsw = s.pcsw := by unfold State.issueFlags; split <;> rfl
@[simp] theorem issueFlags_dpc (s : State) (b : Word) (lat : Nat) : (s.issueFlags b lat).dpc = s.dpc := by unfold State.issueFlags; split <;> rfl
@[simp] theorem issueFlags_spc (s : State) (b : Word) (lat : Nat) : (s.issueFlags b lat).spc = s.spc := by unfold State.issueFlags; split <;> rfl
@[simp] theorem issueFlags_ccMaster (s : State) (b : Word) (lat : Nat) : (s.issueFlags b lat).ccMaster = s.ccMaster := by unfold State.issueFlags; split <;> rfl
@[simp] theorem issueFlags_ccSlave (s : State) (b : Word) (lat : Nat) : (s.issueFlags b lat).ccSlave = s.ccSlave := by unfold State.issueFlags; split <;> rfl
@[simp] theorem issueFlags_results (s : State) (b : Word) (lat : Nat) : (s.issueFlags b lat).results = s.results := by unfold State.issueFlags; split <;> rfl
@[simp] theorem issueFlags_flagUpdates (s : State) (b : Word) (lat : Nat) : (s.issueFlags b lat).flagUpdates = if b = 0 then s.flagUpdates else ⟨b, lat⟩ :: s.flagUpdates := by unfold State.issueFlags; split <;> rfl
@[simp] theorem issueFlags_redirects (s : State) (b : Word) (lat : Nat) : (s.issueFlags b lat).redirects = s.redirects := by unfold State.issueFlags; split <;> rfl
@[simp] theorem issueFlags_mem (s : State) (b : Word) (lat : Nat) : (s.issueFlags b lat).mem = s.mem := by unfold State.issueFlags; split <;> rfl
@[simp] theorem issueFlags_dcache (s : State) (b : Word) (lat : Nat) : (s.issueFlags b lat).dcache = s.dcache := by unfold State.issueFlags; split <;> rfl
@[simp] theorem issueFlags_copyback (s : State) (b : Word) (lat : Nat) : (s.issueFlags b lat).copyback = s.copyback := by unfold State.issueFlags; split <;> rfl
@[simp] theorem issueFlags_fetches (s : State) (b : Word) (lat : Nat) : (s.issueFlags b lat).fetches = s.fetches := by unfold State.issueFlags; split <;> rfl
@[simp] theorem issueFlags_cacheEvents (s : State) (b : Word) (lat : Nat) : (s.issueFlags b lat).cacheEvents = s.cacheEvents := by unfold State.issueFlags; split <;> rfl
@[simp] theorem issueFlags_icache (s : State) (b : Word) (lat : Nat) : (s.issueFlags b lat).icache = s.icache := by unfold State.issueFlags; split <;> rfl
@[simp] theorem issueFlags_issue (s : State) (b : Word) (lat : Nat) : (s.issueFlags b lat).issue = s.issue := by unfold State.issueFlags; split <;> rfl
@[simp] theorem issueFlags_freeCount (s : State) (b : Word) (lat : Nat) : (s.issueFlags b lat).freeCount = s.freeCount := by unfold State.issueFlags; split <;> rfl
@[simp] theorem issueFlags_bdctl (s : State) (b : Word) (lat : Nat) : (s.issueFlags b lat).bdctl = s.bdctl := by unfold State.issueFlags; split <;> rfl
@[simp] theorem issueFlags_mmioBase (s : State) (b : Word) (lat : Nat) : (s.issueFlags b lat).mmioBase = s.mmioBase := by unfold State.issueFlags; split <;> rfl
@[simp] theorem issueFlags_dramLo (s : State) (b : Word) (lat : Nat) : (s.issueFlags b lat).dramLo = s.dramLo := by unfold State.issueFlags; split <;> rfl
@[simp] theorem issueFlags_dramHi (s : State) (b : Word) (lat : Nat) : (s.issueFlags b lat).dramHi = s.dramHi := by unfold State.issueFlags; split <;> rfl
@[simp] theorem issueFlags_dramClimit (s : State) (b : Word) (lat : Nat) : (s.issueFlags b lat).dramClimit = s.dramClimit := by unfold State.issueFlags; split <;> rfl
@[simp] theorem issueFlags_apert1Lo (s : State) (b : Word) (lat : Nat) : (s.issueFlags b lat).apert1Lo = s.apert1Lo := by unfold State.issueFlags; split <;> rfl
@[simp] theorem issueFlags_apert1Hi (s : State) (b : Word) (lat : Nat) : (s.issueFlags b lat).apert1Hi = s.apert1Hi := by unfold State.issueFlags; split <;> rfl

/-! ### logAccess -/

@[simp] theorem logAccess_regs (s : State) (x : Access) : (s.logAccess x).regs = s.regs := rfl
@[simp] theorem logAccess_pc (s : State) (x : Access) : (s.logAccess x).pc = s.pc := rfl
@[simp] theorem logAccess_pcsw (s : State) (x : Access) : (s.logAccess x).pcsw = s.pcsw := rfl
@[simp] theorem logAccess_dpc (s : State) (x : Access) : (s.logAccess x).dpc = s.dpc := rfl
@[simp] theorem logAccess_spc (s : State) (x : Access) : (s.logAccess x).spc = s.spc := rfl
@[simp] theorem logAccess_ccMaster (s : State) (x : Access) : (s.logAccess x).ccMaster = s.ccMaster := rfl
@[simp] theorem logAccess_ccSlave (s : State) (x : Access) : (s.logAccess x).ccSlave = s.ccSlave := rfl
@[simp] theorem logAccess_results (s : State) (x : Access) : (s.logAccess x).results = s.results := rfl
@[simp] theorem logAccess_flagUpdates (s : State) (x : Access) : (s.logAccess x).flagUpdates = s.flagUpdates := rfl
@[simp] theorem logAccess_redirects (s : State) (x : Access) : (s.logAccess x).redirects = s.redirects := rfl
@[simp] theorem logAccess_mem (s : State) (x : Access) : (s.logAccess x).mem = s.mem := rfl
@[simp] theorem logAccess_dcache (s : State) (x : Access) : (s.logAccess x).dcache = s.dcache := rfl
@[simp] theorem logAccess_copyback (s : State) (x : Access) : (s.logAccess x).copyback = s.copyback := rfl
@[simp] theorem logAccess_fetches (s : State) (x : Access) : (s.logAccess x).fetches = s.fetches := rfl
@[simp] theorem logAccess_cacheEvents (s : State) (x : Access) : (s.logAccess x).cacheEvents = s.cacheEvents := rfl
@[simp] theorem logAccess_icache (s : State) (x : Access) : (s.logAccess x).icache = s.icache := rfl
@[simp] theorem logAccess_issue (s : State) (x : Access) : (s.logAccess x).issue = { s.issue with accesses := x :: s.issue.accesses } := rfl
@[simp] theorem logAccess_freeCount (s : State) (x : Access) : (s.logAccess x).freeCount = s.freeCount := rfl
@[simp] theorem logAccess_bdctl (s : State) (x : Access) : (s.logAccess x).bdctl = s.bdctl := rfl
@[simp] theorem logAccess_mmioBase (s : State) (x : Access) : (s.logAccess x).mmioBase = s.mmioBase := rfl
@[simp] theorem logAccess_dramLo (s : State) (x : Access) : (s.logAccess x).dramLo = s.dramLo := rfl
@[simp] theorem logAccess_dramHi (s : State) (x : Access) : (s.logAccess x).dramHi = s.dramHi := rfl
@[simp] theorem logAccess_dramClimit (s : State) (x : Access) : (s.logAccess x).dramClimit = s.dramClimit := rfl
@[simp] theorem logAccess_apert1Lo (s : State) (x : Access) : (s.logAccess x).apert1Lo = s.apert1Lo := rfl
@[simp] theorem logAccess_apert1Hi (s : State) (x : Access) : (s.logAccess x).apert1Hi = s.apert1Hi := rfl

/-! ### setReg -/

@[simp] theorem setReg_pc (s : State) (r : Reg) (v : Word) : (s.setReg r v).pc = s.pc := by unfold State.setReg; split; rfl; split <;> rfl
@[simp] theorem setReg_pcsw (s : State) (r : Reg) (v : Word) : (s.setReg r v).pcsw = s.pcsw := by unfold State.setReg; split; rfl; split <;> rfl
@[simp] theorem setReg_dpc (s : State) (r : Reg) (v : Word) : (s.setReg r v).dpc = s.dpc := by unfold State.setReg; split; rfl; split <;> rfl
@[simp] theorem setReg_spc (s : State) (r : Reg) (v : Word) : (s.setReg r v).spc = s.spc := by unfold State.setReg; split; rfl; split <;> rfl
@[simp] theorem setReg_ccMaster (s : State) (r : Reg) (v : Word) : (s.setReg r v).ccMaster = s.ccMaster := by unfold State.setReg; split; rfl; split <;> rfl
@[simp] theorem setReg_ccSlave (s : State) (r : Reg) (v : Word) : (s.setReg r v).ccSlave = s.ccSlave := by unfold State.setReg; split; rfl; split <;> rfl
@[simp] theorem setReg_results (s : State) (r : Reg) (v : Word) : (s.setReg r v).results = s.results := by unfold State.setReg; split; rfl; split <;> rfl
@[simp] theorem setReg_flagUpdates (s : State) (r : Reg) (v : Word) : (s.setReg r v).flagUpdates = s.flagUpdates := by unfold State.setReg; split; rfl; split <;> rfl
@[simp] theorem setReg_redirects (s : State) (r : Reg) (v : Word) : (s.setReg r v).redirects = s.redirects := by unfold State.setReg; split; rfl; split <;> rfl
@[simp] theorem setReg_mem (s : State) (r : Reg) (v : Word) : (s.setReg r v).mem = s.mem := by unfold State.setReg; split; rfl; split <;> rfl
@[simp] theorem setReg_dcache (s : State) (r : Reg) (v : Word) : (s.setReg r v).dcache = s.dcache := by unfold State.setReg; split; rfl; split <;> rfl
@[simp] theorem setReg_copyback (s : State) (r : Reg) (v : Word) : (s.setReg r v).copyback = s.copyback := by unfold State.setReg; split; rfl; split <;> rfl
@[simp] theorem setReg_fetches (s : State) (r : Reg) (v : Word) : (s.setReg r v).fetches = s.fetches := by unfold State.setReg; split; rfl; split <;> rfl
@[simp] theorem setReg_cacheEvents (s : State) (r : Reg) (v : Word) : (s.setReg r v).cacheEvents = s.cacheEvents := by unfold State.setReg; split; rfl; split <;> rfl
@[simp] theorem setReg_icache (s : State) (r : Reg) (v : Word) : (s.setReg r v).icache = s.icache := by unfold State.setReg; split; rfl; split <;> rfl
@[simp] theorem setReg_issue (s : State) (r : Reg) (v : Word) : (s.setReg r v).issue = s.issue := by unfold State.setReg; split; rfl; split <;> rfl
@[simp] theorem setReg_freeCount (s : State) (r : Reg) (v : Word) : (s.setReg r v).freeCount = s.freeCount := by unfold State.setReg; split; rfl; split <;> rfl
@[simp] theorem setReg_bdctl (s : State) (r : Reg) (v : Word) : (s.setReg r v).bdctl = s.bdctl := by unfold State.setReg; split; rfl; split <;> rfl
@[simp] theorem setReg_mmioBase (s : State) (r : Reg) (v : Word) : (s.setReg r v).mmioBase = s.mmioBase := by unfold State.setReg; split; rfl; split <;> rfl
@[simp] theorem setReg_dramLo (s : State) (r : Reg) (v : Word) : (s.setReg r v).dramLo = s.dramLo := by unfold State.setReg; split; rfl; split <;> rfl
@[simp] theorem setReg_dramHi (s : State) (r : Reg) (v : Word) : (s.setReg r v).dramHi = s.dramHi := by unfold State.setReg; split; rfl; split <;> rfl
@[simp] theorem setReg_dramClimit (s : State) (r : Reg) (v : Word) : (s.setReg r v).dramClimit = s.dramClimit := by unfold State.setReg; split; rfl; split <;> rfl
@[simp] theorem setReg_apert1Lo (s : State) (r : Reg) (v : Word) : (s.setReg r v).apert1Lo = s.apert1Lo := by unfold State.setReg; split; rfl; split <;> rfl
@[simp] theorem setReg_apert1Hi (s : State) (r : Reg) (v : Word) : (s.setReg r v).apert1Hi = s.apert1Hi := by unfold State.setReg; split; rfl; split <;> rfl

/-! ### Registers -/

theorem reg_zero (s : State) : s.reg 0 = 0 := rfl

theorem reg_one (s : State) : s.reg 1 = 1 := rfl

@[simp] theorem reg_setReg_same (s : State) (r : Reg) (v : Word) (h0 : r ≠ 0) (h1 : r ≠ 1) :
    (s.setReg r v).reg r = v := by
  rw [State.setReg, if_neg h0, if_neg h1, State.reg, if_neg h0, if_neg h1]
  exact Vector.getElem_set_self ..

theorem reg_setReg_other (s : State) (r q : Reg) (v : Word) (h : q ≠ r) : (s.setReg r v).reg q = s.reg q := by
  have hn : r.toNat ≠ q.toNat := fun e => h (BitVec.eq_of_toNat_eq e.symm)
  unfold State.setReg
  split
  · rfl
  split
  · rfl
  · simp only [State.reg]
    rw [Vector.getElem_set_ne _ _ hn]

/-- What the registers hold decides what a read gives. -/
theorem reg_congr {s t : State} (h : t.regs = s.regs) (r : Reg) : t.reg r = s.reg r := by
  simp [State.reg, h]

end Sys2Proof.Machine
end

