-- ==== Sys2Proof/Laws/Sets.lean ====
section
/-! SUPPORT. Sets, elements and lookups of the caches, and what keeps a set of the data cache free of two valid elements
with one tag. -/
namespace Sys2Proof.Machine

/-! ### Addresses and blocks -/

@[simp] theorem mapEach_get {α β : Type} {n : Nat} (f : α → β) (v : Vector α n) (k : Nat) (h : k < n) :
    (mapEach f v)[k] = f v[k] := by simp [mapEach]

theorem dBlock_of_address (a : Word) : dBlock (dSet a) (dTag a) = blockOf a := by
  unfold dBlock dSet dTag blockOf
  ext i hi
  simp only [BitVec.ofFin_toFin, BitVec.getElem_append, BitVec.getElem_extractLsb']
  split
  · rfl
  · congr 1
    omega

theorem dBlock_inj {k k' : Fin 32} {t t' : BitVec 21} (h : dBlock k t = dBlock k' t') : k = k' ∧ t = t' := by
  unfold dBlock at h
  have h' : (t.toNat <<< 5 ||| k.val) = (t'.toNat <<< 5 ||| k'.val) := by
    simpa only [BitVec.toNat_append, BitVec.toNat_ofFin] using congrArg BitVec.toNat h
  rw [← Nat.shiftLeft_add_eq_or_of_lt (by exact k.isLt), ← Nat.shiftLeft_add_eq_or_of_lt (by exact k'.isLt)] at h'
  simp only [Nat.shiftLeft_eq] at h'
  have := k.isLt
  have := k'.isLt
  exact ⟨Fin.ext (by omega), BitVec.eq_of_toNat_eq (by omega)⟩

theorem blockBase_add_offset (a : Word) : blockBase (blockOf a) + BitVec.ofNat 32 (blockOffset a).val = a := by
  have hb : (blockBase (blockOf a)).toNat = a.toNat / 64 * 64 := by
    simp only [blockBase, blockOf, BitVec.toNat_append, BitVec.extractLsb'_toNat, Nat.shiftLeft_eq,
      Nat.shiftRight_eq_div_pow]
    have := a.isLt
    simp only [BitVec.ofNat_eq_ofNat, BitVec.toNat_ofNat, Nat.zero_mod, Nat.or_zero]
    omega
  have ho : (blockOffset a).val = a.toNat % 64 := by
    simp [blockOffset]
  apply BitVec.eq_of_toNat_eq
  rw [BitVec.toNat_add, hb, ho, BitVec.toNat_ofNat]
  have := a.isLt
  omega

/-! ### Lookup -/

theorem find_none {n : Nat} {c : CacheSet n} {t : BitVec n} :
    c.find t = none ↔ ∀ e : Fin 8, c.lines[e].valid = true → c.lines[e].tag ≠ t := by
  unfold CacheSet.find
  rw [List.find?_eq_none]
  simp [Bool.and_eq_true]

theorem find_some {n : Nat} {c : CacheSet n} {t : BitVec n} {e : Fin 8} (h : c.find t = some e) :
    c.lines[e].valid = true ∧ c.lines[e].tag = t := by
  have := List.find?_some h
  simpa [Bool.and_eq_true] using this

/-- With no tag twice in the set, the lookup finds the one element that matches. -/
theorem find_of {n : Nat} {c : CacheSet n} {t : BitVec n} {e : Fin 8}
    (hu : ∀ e e' : Fin 8, c.lines[e].valid = true → c.lines[e'].valid = true → c.lines[e].tag = c.lines[e'].tag → e = e')
    (hv : c.lines[e].valid = true) (ht : c.lines[e].tag = t) : c.find t = some e := by
  cases h : c.find t with
  | none => exact absurd ht (find_none.1 h e hv)
  | some e' =>
    obtain ⟨hv', ht'⟩ := find_some h
    rw [hu e e' hv hv' (ht.trans ht'.symm)]

/-- Two sets whose elements agree in valid bit and tag answer every lookup alike. -/
theorem find_congr {n : Nat} {c c' : CacheSet n} (t : BitVec n)
    (h : ∀ e : Fin 8, c'.lines[e].valid = c.lines[e].valid ∧ c'.lines[e].tag = c.lines[e].tag) : c'.find t = c.find t := by
  unfold CacheSet.find
  congr 1
  funext e
  rw [(h e).1, (h e).2]

/-! ### Sets and elements -/

theorem setDSet_get (s : State) (k j : Fin 32) (c : CacheSet 21) :
    (s.setDSet k c).dcache[j] = if j = k then c else s.dcache[j] := by
  show (s.dcache.set k c)[j.val] = _
  rw [Vector.getElem_set]
  by_cases h : k = j
  · simp [h]
  · rw [if_neg (fun e => h (Fin.ext e)), if_neg (fun e => h e.symm)]
    rfl

theorem setLine_get {n : Nat} (c : CacheSet n) (e j : Fin 8) (l : Line n) :
    (c.setLine e l).lines[j] = if j = e then l else c.lines[j] := by
  show (c.lines.set e l)[j.val] = _
  rw [Vector.getElem_set]
  by_cases h : e = j
  · simp [h]
  · rw [if_neg (fun e => h (Fin.ext e)), if_neg (fun e => h e.symm)]
    rfl

/-! ### What the updates of the data cache do to its elements -/

theorem place_lines (s : State) (k : Fin 32) (e : Fin 8) (t : BitVec 21) (dirty : Bool) (d : Block) (j : Fin 32)
    (f : Fin 8) : (s.place k e t dirty d).dcache[j].lines[f] =
      if j = k ∧ f = e then ⟨true, dirty, s.dcache[k].lines[e].locked, t, d⟩ else s.dcache[j].lines[f] := by
  unfold State.place
  simp only [setDSet_get]
  by_cases hj : j = k
  · subst hj
    simp only [if_true, true_and, CacheSet.reference]
    exact setLine_get ..
  · simp [hj]

theorem evict_dcache (s : State) (k : Fin 32) (e : Fin 8) : (s.evict k e).dcache = s.dcache := by
  unfold State.evict
  dsimp only
  split <;> rfl

/-- The victim's eviction, whichever element is the victim. -/
theorem takeVictim_eq (s : State) (k : Fin 32) :
    ∃ u, (u = s ∨ u = s.drawn) ∧ (s.takeVictim k).2 = u.evict k (s.takeVictim k).1 := by
  unfold State.takeVictim
  dsimp only
  split
  · exact ⟨s.drawn, .inr rfl, rfl⟩
  · exact ⟨s, .inl rfl, rfl⟩

theorem takeVictim_dcache (s : State) (k : Fin 32) : (s.takeVictim k).2.dcache = s.dcache := by
  obtain ⟨u, rfl | rfl, h⟩ := takeVictim_eq s k <;> rw [h, evict_dcache]
  rfl

/-- A reference changes LRU bits alone. -/
theorem reference_lines (s : State) (k : Fin 32) (e : Fin 8) (j : Fin 32) (f : Fin 8) :
    (s.setDSet k (s.dcache[k].reference e)).dcache[j].lines[f] = s.dcache[j].lines[f] := by
  rw [setDSet_get]
  by_cases h : j = k
  · subst h
    simp [CacheSet.reference]
  · simp [h]

theorem setLineByte_lines (s : State) (a : Word) (e : Fin 8) (b : Byte) (j : Fin 32) (f : Fin 8) :
    (s.setLineByte a e b).dcache[j].lines[f] =
      if j = dSet a ∧ f = e then
        { s.dcache[dSet a].lines[e] with data := s.dcache[dSet a].lines[e].data.set (blockOffset a) b, dirty := true }
      else s.dcache[j].lines[f] := by
  unfold State.setLineByte
  simp only [setDSet_get]
  by_cases hj : j = dSet a
  · subst hj
    simp only [if_true, true_and]
    exact setLine_get ..
  · simp [hj]

theorem touchLine_lines (s : State) (k : Fin 32) (e : Fin 8) (f : Line 21 → Line 21) (j : Fin 32) (i : Fin 8) :
    (s.touchLine k e f).dcache[j].lines[i] = if j = k ∧ i = e then f s.dcache[k].lines[e] else s.dcache[j].lines[i] := by
  unfold State.touchLine
  simp only [setDSet_get]
  by_cases hj : j = k
  · subst hj
    simp only [if_true, true_and]
    exact setLine_get ..
  · simp [hj]

/-- A line that is touched is demoted in its set; the LRU bits of the other sets stay. -/
theorem touchLine_lru (s : State) (k : Fin 32) (e : Fin 8) (f : Line 21 → Line 21) (j : Fin 32) :
    (s.touchLine k e f).dcache[j].lru = if j = k then s.dcache[k].lru.demote e else s.dcache[j].lru := by
  unfold State.touchLine
  simp only [setDSet_get]
  by_cases h : j = k <;> simp [h, CacheSet.setLine]

/-- The element that is demoted is the next victim, whatever the LRU bits were. -/
theorem demote_victim (l : Lru) (e : Fin 8) : (l.demote e).victim = e := by
  have h : ∀ (a b c d e f : Bool) (w : BitVec 4) (x : Fin 8), (Lru.demote ⟨a, b, c, d, e, f, w⟩ x).victim = x := by
    decide +kernel
  cases l
  exact h ..

theorem flushLine_lines (s : State) (k : Fin 32) (e : Fin 8) (j : Fin 32) (i : Fin 8) :
    (s.flushLine k e).dcache[j].lines[i] =
      if j = k ∧ i = e then { s.dcache[k].lines[e] with valid := false, dirty := false } else s.dcache[j].lines[i] := by
  unfold State.flushLine
  dsimp only
  simp only [setDSet_get]
  by_cases hj : j = k
  · subst hj
    simp only [if_true, true_and]
    exact setLine_get ..
  · simp only [if_neg hj, if_neg (fun h => hj h.1 : ¬(j = k ∧ i = e))]
    split <;> rfl

theorem unlock_lines (dc : DCache) (k : Fin 32) (e : Fin 8) :
    (mapEach CacheSet.unlock dc)[k].lines[e] = { dc[k].lines[e] with locked := false } := by
  simp [mapEach, CacheSet.unlock]

/-! ### No tag twice -/

/-- Where every valid element was valid before, with the same tag. -/
theorem tagsOk_of_lines {s t : State} (hs : s.tagsOk)
    (h : ∀ (k : Fin 32) (e : Fin 8), t.dcache[k].lines[e].valid = true →
      s.dcache[k].lines[e].valid = true ∧ t.dcache[k].lines[e].tag = s.dcache[k].lines[e].tag) : t.tagsOk := by
  intro k e e' hv hv' ht
  obtain ⟨h1, h2⟩ := h k e hv
  obtain ⟨h3, h4⟩ := h k e' hv'
  exact hs k e e' h1 h3 (h2.symm.trans (ht.trans h4))

theorem tagsOk_unlock {s t : State} (h : t.dcache = mapEach CacheSet.unlock s.dcache) (hs : s.tagsOk) : t.tagsOk :=
  tagsOk_of_lines hs fun k e hv => by
    rw [h, unlock_lines] at hv ⊢
    exact ⟨hv, rfl⟩

/-- Where one element has a new tag, which no other valid element of its set had. -/
theorem tagsOk_of_new {s t : State} {k : Fin 32} {e : Fin 8} {tag : BitVec 21} (hs : s.tagsOk)
    (hnew : t.dcache[k].lines[e].tag = tag)
    (hold : ∀ (j : Fin 32) (f : Fin 8), ¬(j = k ∧ f = e) → t.dcache[j].lines[f].valid = true →
      s.dcache[j].lines[f].valid = true ∧ t.dcache[j].lines[f].tag = s.dcache[j].lines[f].tag)
    (hnone : ∀ f : Fin 8, f ≠ e → s.dcache[k].lines[f].valid = true → s.dcache[k].lines[f].tag ≠ tag) : t.tagsOk := by
  intro j f f' hv hv' ht
  by_cases h1 : j = k ∧ f = e <;> by_cases h2 : j = k ∧ f' = e
  · exact h1.2.trans h2.2.symm
  · obtain ⟨rfl, rfl⟩ := h1
    obtain ⟨h3, h4⟩ := hold _ _ h2 hv'
    exact absurd (h4.symm.trans (ht.symm.trans hnew)) (hnone f' (fun h => h2 ⟨rfl, h⟩) h3)
  · obtain ⟨rfl, rfl⟩ := h2
    obtain ⟨h3, h4⟩ := hold _ _ h1 hv
    exact absurd (h4.symm.trans (ht.trans hnew)) (hnone f (fun h => h1 ⟨rfl, h⟩) h3)
  · obtain ⟨h3, h4⟩ := hold _ _ h1 hv
    obtain ⟨h5, h6⟩ := hold _ _ h2 hv'
    exact hs j f f' h3 h5 (h4.symm.trans (ht.trans h6))

/-- A block placed where its tag was not, or in the element that held it. -/
theorem tagsOk_place {s : State} {k : Fin 32} {e : Fin 8} {t : BitVec 21} (dirty : Bool) (d : Block) (hs : s.tagsOk)
    (hf : s.dcache[k].find t = none ∨ s.dcache[k].find t = some e) : (s.place k e t dirty d).tagsOk := by
  refine tagsOk_of_new (k := k) (e := e) (tag := t) hs ?_ ?_ ?_
  · rw [place_lines, if_pos ⟨rfl, rfl⟩]
  · intro j f h hv
    rw [place_lines, if_neg h] at hv ⊢
    exact ⟨hv, rfl⟩
  · intro f hne hv ht
    rcases hf with hf | hf
    · exact find_none.1 hf f hv ht
    · obtain ⟨hv', ht'⟩ := find_some hf
      exact hne (hs k f e hv hv' (ht.trans ht'.symm))

end Sys2Proof.Machine
end

