-- ==== Sys2Proof/Laws/Ops.lean ====
section
/-! SUPPORT. What the shared operations leave alone: the registers and the other state that no operation changes at its
issue, the pending jumps, the destinations of the results on their way, the canonical form of SDRAM, the number of
outstanding fetches and the uniqueness of tags in the data cache. -/
namespace Sys2Proof.Machine

theorem State.SameCore.refl (s : State) : s.SameCore s := by constructor <;> rfl

theorem State.SameCore.trans {s t u : State} (h : s.SameCore t) (k : t.SameCore u) : s.SameCore u := by
  constructor
  · exact k.regs.trans h.regs
  · exact k.pc.trans h.pc
  · exact k.pcsw.trans h.pcsw
  · exact k.dpc.trans h.dpc
  · exact k.spc.trans h.spc
  · exact k.ccMaster.trans h.ccMaster
  · exact k.ccSlave.trans h.ccSlave
  · exact k.oldPcsw.trans h.oldPcsw
  · exact k.iclrPrev.trans h.iclrPrev
  · exact k.ctlPllEn.trans h.ctlPllEn
  · exact k.ctlRatio.trans h.ctlRatio
  · exact k.dramLo.trans h.dramLo
  · exact k.dramHi.trans h.dramHi
  · exact k.dramClimit.trans h.dramClimit
  · exact k.apert1Lo.trans h.apert1Lo
  · exact k.apert1Hi.trans h.apert1Hi
  · exact k.startAddr.trans h.startAddr
  · exact k.irqLines.trans h.irqLines
  · exact k.mmioBase.trans h.mmioBase
  · exact k.run.trans h.run
  · exact k.pwrdwn.trans h.pwrdwn
  · exact k.pwrdwnAck.trans h.pwrdwnAck
  · exact k.piReply.trans h.piReply
  · exact k.inbox.trans h.inbox

/-- `t` comes from `s` by an operation that issues no jump and no result. -/
structure Quiet (s t : State) : Prop where
  core : s.SameCore t
  memory : s.mem.wf = true → t.mem.wf = true
  redirects : t.redirects = s.redirects
  dests : t.results.map Result.dest = s.results.map Result.dest
  fetches : s.fetchesOk = true → t.fetchesOk = true
  tags : s.tagsOk → t.tagsOk

theorem Quiet.refl (s : State) : Quiet s s := ⟨.refl s, id, rfl, rfl, id, id⟩

theorem Quiet.trans {s t u : State} (h : Quiet s t) (k : Quiet t u) : Quiet s u :=
  ⟨h.core.trans k.core, k.memory ∘ h.memory, k.redirects.trans h.redirects, k.dests.trans h.dests,
    k.fetches ∘ h.fetches, k.tags ∘ h.tags⟩

theorem fetchesOk_congr {s t : State} (h : t.fetches = s.fetches) : s.fetchesOk = true → t.fetchesOk = true := by
  rw [State.fetchesOk, State.fetchesOk, h]
  exact id

theorem tagsOk_congr {s t : State} (h : t.dcache = s.dcache) : s.tagsOk → t.tagsOk := by
  unfold State.tagsOk
  rw [h]
  exact id

/-! ### Guards -/

/-- A guarded operation does nothing or what it is. -/
theorem guarded_next {g : Reg} {s t : State} {f : State → Out} (h : guarded g s f = .next t) :
    (s.guard g = true ∧ f s = .next t) ∨ (s.guard g = false ∧ t = s) := by
  unfold guarded at h
  split at h
  · exact .inl ⟨‹_›, h⟩
  · cases h
    exact .inr ⟨Bool.eq_false_of_not_eq_true ‹_›, rfl⟩

theorem issueValue_eq (u : FuncUnit) (g d : Reg) (v : Word) (s : State) :
    issueValue u g d v s = .next (if s.guard g then s.issueResult d v u.latency else s) := by
  unfold issueValue guarded
  split <;> simp_all

theorem issueFloat_eq (u : FuncUnit) (g d : Reg) (r : FpOut) (s : State) :
    issueFloat u g d r s =
      .next (if s.guard g then (s.issueResult d r.value u.latency).issueFlags r.flags u.latency else s) := by
  unfold issueFloat guarded
  split <;> simp_all

theorem jump_eq (g : Reg) (c i : Bool) (target : Word) (s : State) :
    jump g c i target s = .next (if s.guard g && c then
      { s with redirects := ⟨target, Config.branchDelay, i⟩ :: s.redirects } else s) := by
  unfold jump guarded
  cases hg : s.guard g <;> cases c <;> simp

theorem issueResult_core (s : State) (d : Reg) (v : Word) (lat : Nat) : s.SameCore (s.issueResult d v lat) := by
  constructor <;> rfl

theorem issueFlags_quiet (s : State) (b : Word) (lat : Nat) : Quiet s (s.issueFlags b lat) := by
  unfold State.issueFlags
  split
  · exact .refl s
  · exact ⟨by constructor <;> rfl, id, rfl, rfl, id, id⟩

/-! ### The data cache -/

theorem drawn_quiet (s : State) : Quiet s s.drawn := ⟨by constructor <;> rfl, id, rfl, rfl, id, id⟩

theorem cacheEvent_quiet (s : State) (k : Fin 16) : Quiet s (s.cacheEvent k) := ⟨by constructor <;> rfl, id, rfl, rfl, id, id⟩

theorem startFetch_quiet (s : State) (b : BitVec 26) (p : Bool) : Quiet s (s.startFetch b p) :=
  ⟨by constructor <;> rfl, id, rfl, rfl, fun _ => by simp [State.fetchesOk, List.length_take], id⟩

theorem discardPrefetches_quiet (s : State) : Quiet s s.discardPrefetches :=
  ⟨by constructor <;> rfl, id, rfl, rfl, fun h => by
    simp only [State.fetchesOk, decide_eq_true_eq] at h ⊢
    exact Nat.le_trans (List.length_filter_le ..) h, id⟩

theorem setDSet_quiet (s : State) (k : Fin 32) (c : CacheSet 21) (h : s.tagsOk → (s.setDSet k c).tagsOk) :
    Quiet s (s.setDSet k c) := ⟨by constructor <;> rfl, id, rfl, rfl, id, h⟩

theorem reference_quiet (s : State) (k : Fin 32) (e : Fin 8) : Quiet s (s.setDSet k (s.dcache[k].reference e)) :=
  setDSet_quiet _ _ _ fun h => tagsOk_of_lines h fun j f hv => by
    rw [reference_lines] at hv ⊢
    exact ⟨hv, rfl⟩

theorem evict_quiet (s : State) (k : Fin 32) (e : Fin 8) : Quiet s (s.evict k e) := by
  unfold State.evict
  dsimp only
  split
  · exact ⟨by constructor <;> rfl, id, rfl, rfl, id, id⟩
  · exact .refl s

theorem takeVictim_quiet (s : State) (k : Fin 32) : Quiet s (s.takeVictim k).2 := by
  unfold State.takeVictim
  dsimp only
  split
  · exact (drawn_quiet s).trans (evict_quiet ..)
  · exact evict_quiet ..

theorem place_quiet (s : State) (k : Fin 32) (e : Fin 8) (t : BitVec 21) (dirty : Bool) (d : Block)
    (hf : s.dcache[k].find t = none ∨ s.dcache[k].find t = some e) : Quiet s (s.place k e t dirty d) :=
  setDSet_quiet _ _ _ fun h => tagsOk_place dirty d h hf

theorem fill_quiet (s : State) (a : Word) (h : s.dFind a = none) : Quiet s (s.fill a).2 :=
  (takeVictim_quiet ..).trans (place_quiet _ _ _ _ _ _ (.inl (by rw [takeVictim_dcache]; exact h)))

theorem dAccess_quiet (s : State) (a : Word) (miss : Fin 16) : Quiet s (s.dAccess a miss).2 := by
  unfold State.dAccess
  split
  · exact reference_quiet ..
  · next h => exact ((cacheEvent_quiet ..).trans (startFetch_quiet ..)).trans (fill_quiet _ _ h)

theorem finishFetch_quiet (s : State) : Quiet s s.finishFetch := by
  have hd : Quiet s { s with fetches := s.fetches.dropLast } :=
    ⟨by constructor <;> rfl, id, rfl, rfl, fun h => by
      simp only [State.fetchesOk, decide_eq_true_eq, List.length_dropLast] at h ⊢
      omega, id⟩
  unfold State.finishFetch
  split
  · exact .refl s
  · dsimp only
    split
    · next h =>
      simp only [Bool.and_eq_true, Option.isNone_iff_eq_none] at h
      exact hd.trans (fill_quiet _ _ h.2)
    · exact hd

theorem setLineByte_quiet (s : State) (a : Word) (e : Fin 8) (b : Byte) : Quiet s (s.setLineByte a e b) :=
  setDSet_quiet _ _ _ fun h => tagsOk_of_lines h fun j f hv => by
    rw [← State.setLineByte, setLineByte_lines] at hv ⊢
    split at hv
    · next he => exact ⟨by rw [he.1, he.2]; exact hv, by rw [if_pos he, he.1, he.2]⟩
    · next he => exact ⟨hv, by rw [if_neg he]⟩

theorem setLineBytes_quiet (s : State) (a : Word) (e : Fin 8) (bs : List Byte) : Quiet s (s.setLineBytes a e bs) := by
  induction bs generalizing s a with
  | nil => exact .refl s
  | cons b bs ih => exact (setLineByte_quiet ..).trans (ih ..)

theorem drained_quiet (s : State) : Quiet s s.drained :=
  ⟨by constructor <;> rfl, drained_mem_wf s, rfl, rfl, id, id⟩

theorem drainOldest_quiet (s : State) : Quiet s s.drainOldest := by
  refine ⟨?_, drainOldest_mem_wf s, ?_, ?_, ?_, ?_⟩ <;> unfold State.drainOldest <;> split <;>
    first | rfl | exact id | (constructor <;> rfl)

theorem writeBlock_quiet (s : State) (k : BitVec 26) (d : Block) :
    Quiet s ({ s with mem := s.mem.writeBlock k d }.cacheEvent 7) :=
  ⟨by constructor <;> rfl, mem_writeBlock_wf s.mem k d, rfl, rfl, id, id⟩

/-- The line's new valid bit and tag are those it had, or it is invalid. -/
theorem touchLine_quiet (s : State) (k : Fin 32) (e : Fin 8) (f : Line 21 → Line 21)
    (hf : ∀ l, (f l).valid = true → l.valid = true ∧ (f l).tag = l.tag) : Quiet s (s.touchLine k e f) :=
  setDSet_quiet _ _ _ fun h => tagsOk_of_lines h fun j i hv => by
    rw [← State.touchLine, touchLine_lines] at hv ⊢
    split at hv
    · next he =>
      rw [if_pos he, he.1, he.2]
      exact hf _ hv
    · next he => exact ⟨hv, by rw [if_neg he]⟩

theorem allocBlock_quiet (s : State) (a : Word) : Quiet s (s.allocBlock a) := by
  unfold State.allocBlock
  split
  · split
    · next h => exact (drawn_quiet s).trans (place_quiet _ _ _ _ _ _ (.inr h))
    · next h =>
      refine ((takeVictim_quiet ..).trans (drawn_quiet _)).trans (place_quiet _ _ _ _ _ _ (.inl ?_))
      rw [drawn_dcache, takeVictim_dcache]
      exact h
  · exact .refl s

theorem prefetchBlock_quiet (s : State) (a : Word) : Quiet s (s.prefetchBlock a) := by
  unfold State.prefetchBlock
  split
  · split
    · exact cacheEvent_quiet ..
    · split
      · exact .refl s
      · dsimp only
        split
        · exact (drawn_quiet s).trans (startFetch_quiet ..)
        · exact drawn_quiet s
  · exact .refl s

theorem copyBackBlock_quiet (s : State) (a : Word) : Quiet s (s.copyBackBlock a) := by
  have h0 := (discardPrefetches_quiet s).trans (drained_quiet _)
  unfold State.copyBackBlock
  dsimp only
  split
  · refine Quiet.trans ?_ (touchLine_quiet _ _ _ _ fun l hv => ⟨hv, rfl⟩)
    split
    · exact h0.trans (writeBlock_quiet ..)
    · exact h0
  · exact h0

theorem invalidateBlock_quiet (s : State) (a : Word) : Quiet s (s.invalidateBlock a) := by
  have h0 := (discardPrefetches_quiet s).trans (drained_quiet _)
  unfold State.invalidateBlock
  dsimp only
  split
  · exact h0.trans (touchLine_quiet _ _ _ _ fun l hv => nomatch hv)
  · exact h0

theorem tagWord_quiet (s : State) (a : Word) : Quiet s (s.tagWord a).2 := by
  unfold State.tagWord
  dsimp only
  split
  · exact .refl s
  · exact drawn_quiet s

theorem flushLine_quiet (s : State) (k : Fin 32) (e : Fin 8) : Quiet s (s.flushLine k e) := by
  have ht : s.tagsOk → (s.flushLine k e).tagsOk := fun h => tagsOk_of_lines h fun j f hv => by
    rw [flushLine_lines] at hv ⊢
    split at hv
    · cases hv
    · next he => exact ⟨hv, by rw [if_neg he]⟩
  unfold State.flushLine at ht ⊢
  dsimp only at ht ⊢
  split at ht
  · next h =>
    rw [if_pos h]
    exact ⟨by constructor <;> rfl, mem_writeBlock_wf s.mem _ _, rfl, rfl, id, ht⟩
  · next h =>
    rw [if_neg h]
    exact ⟨by constructor <;> rfl, id, rfl, rfl, id, ht⟩

/-- After the flush of an element that held the tag, if one did, no valid element has it. -/
theorem find_after_flush {s : State} {k : Fin 32} {t : BitVec 21} {e : Fin 8} (hs : s.tagsOk)
    (h : s.dcache[k].find t = some e) : (s.flushLine k e).dcache[k].find t = none := by
  obtain ⟨hv, ht⟩ := find_some h
  rw [find_none]
  intro f hfv hft
  rw [flushLine_lines] at hfv hft
  split at hfv
  · cases hfv
  · next hne =>
    rw [if_neg hne] at hft
    exact hne ⟨rfl, hs k f e hfv hv (hft.trans ht.symm)⟩

/-- A block locked in an element of its set, where no other valid element has its tag. -/
theorem lockLine_quiet {s u : State} {k : Fin 32} {t : BitVec 21} (e : Fin 8) (d : Block) (hu : Quiet s u)
    (hn : s.tagsOk → u.dcache[k].find t = none) :
    Quiet s (u.setDSet k { u.dcache[k].setLine e ⟨true, false, true, t, d⟩ with lru := Lru.initial }) := by
  refine ⟨hu.core.trans (by constructor <;> rfl), hu.memory, hu.redirects, hu.dests, hu.fetches, fun hs => ?_⟩
  refine tagsOk_of_new (s := u) (k := k) (e := e) (tag := t) (hu.tags hs) ?_ ?_ ?_
  · rw [setDSet_get, if_pos rfl]
    exact congrArg Line.tag ((setLine_get ..).trans (if_pos rfl))
  · intro j f hne hv
    rw [setDSet_get] at hv ⊢
    by_cases hj : j = k
    · subst hj
      have hl : (u.dcache[j].setLine e ⟨true, false, true, t, d⟩).lines[f] = u.dcache[j].lines[f] :=
        (setLine_get ..).trans (if_neg fun h => hne ⟨rfl, h⟩)
      rw [if_pos rfl] at hv ⊢
      exact ⟨by rw [← hl]; exact hv, congrArg Line.tag hl⟩
    · rw [if_neg hj] at hv ⊢
      exact ⟨hv, rfl⟩
  · intro f _ hv
    exact find_none.1 (hn hs) f hv

theorem lockBlock_quiet (s : State) (a : Word) (e : Fin 8) : Quiet s (s.lockBlock a e) := by
  have h1 := flushLine_quiet s (dSet a) e
  unfold State.lockBlock
  dsimp only
  split
  · next e' h => exact lockLine_quiet _ _ (h1.trans (flushLine_quiet ..)) fun hs => find_after_flush (h1.tags hs) h
  · next h => exact lockLine_quiet _ _ h1 fun _ => h

theorem lockBlocks_quiet (s : State) (a : Word) (j n : Nat) : Quiet s (s.lockBlocks a j n) := by
  induction n generalizing s a j with
  | zero => exact .refl s
  | succ n ih =>
    unfold State.lockBlocks
    dsimp only
    split
    · exact (lockBlock_quiet ..).trans (ih ..)
    · exact ih ..

theorem setDcLock_quiet {s t : State} {v : Word} (h : s.setDcLock v = .ok t) : Quiet s t := by
  unfold State.setDcLock at h
  dsimp only at h
  have h0 : Quiet s { s with dcLockCtl := v &&& Config.lockCtlMask, dcache := mapEach CacheSet.unlock s.dcache } :=
    ⟨by constructor <;> rfl, id, rfl, rfl, fetchesOk_congr rfl, tagsOk_unlock rfl⟩
  split at h
  · split at h
    · cases h
    · cases h
      exact (h0.trans (drained_quiet _)).trans (lockBlocks_quiet ..)
  · cases h
    exact h0

/-! ### The instruction cache -/

theorem clearICache_quiet (s : State) : Quiet s s.clearICache :=
  (discardPrefetches_quiet s).trans
    ⟨by constructor <;> rfl, id, rfl, rfl, fetchesOk_congr rfl, tagsOk_congr rfl⟩

theorem lockIBlocks_quiet (s : State) (a : Word) (j n : Nat) : Quiet s (s.lockIBlocks a j n) := by
  induction n generalizing s a j with
  | zero => exact .refl s
  | succ n ih =>
    unfold State.lockIBlocks
    dsimp only
    refine Quiet.trans ?_ (ih ..)
    split
    · exact ⟨by constructor <;> rfl, id, rfl, rfl, fetchesOk_congr rfl, tagsOk_congr rfl⟩
    · exact .refl s

theorem setIcLock_quiet {s t : State} {v : Word} (h : s.setIcLock v = .ok t) : Quiet s t := by
  unfold State.setIcLock at h
  dsimp only at h
  split at h
  · split at h
    · cases h
    · cases h
      refine Quiet.trans ?_ (lockIBlocks_quiet ..)
      exact ⟨by constructor <;> rfl, id, rfl, rfl, fetchesOk_congr rfl, tagsOk_congr rfl⟩
  · cases h
    exact ⟨by constructor <;> rfl, id, rfl, rfl, fetchesOk_congr rfl, tagsOk_congr rfl⟩

/-! ### MMIO -/

theorem withFreeBits_quiet (s : State) (mask v : Word) : Quiet s (s.withFreeBits mask v).2 := drawn_quiet s

theorem readMmioReg_quiet (s : State) (r : MmioReg) : Quiet s (s.readMmioReg r).2 := by
  cases r <;> first | exact .refl s | exact drawn_quiet s

theorem writeMmioReg_quiet {s t : State} {r : MmioReg} {v : Word} (h : s.writeMmioReg r v = .ok t) : Quiet s t := by
  cases r
  case dcLockCtl => exact setDcLock_quiet h
  case icLockCtl => exact setIcLock_quiet h
  all_goals
    cases h
    exact ⟨by constructor <;> rfl, id, rfl, rfl, id, id⟩

theorem requestPowerDown_quiet (s : State) : Quiet s s.requestPowerDown := by
  unfold State.requestPowerDown
  split
  · exact .refl s
  · exact ⟨by constructor <;> rfl, id, rfl, rfl, id, id⟩

theorem piTransaction_quiet (s : State) (op : PiOp) (a d : Word) : Quiet s (s.piTransaction op a d) :=
  ⟨by constructor <;> rfl, id, rfl, rfl, id, id⟩

theorem piReadWord_quiet (s : State) (a : Word) : Quiet s (s.piReadWord a).2 :=
  (drawn_quiet s).trans (piTransaction_quiet ..)

theorem readTagArea_quiet {s : State} {off : BitVec 21} {p : Word × State} (h : s.readTagArea off = .ok p) :
    Quiet s p.2 := by
  unfold State.readTagArea at h
  dsimp only at h
  split_ifs at h <;> cases h <;> first | exact .refl s | exact drawn_quiet s

theorem mmioLoad_quiet {s : State} {a : Word} {p : Word × State} (h : s.mmioLoad a = .ok p) : Quiet s p.2 := by
  unfold State.mmioLoad at h
  dsimp only at h
  split at h
  · exact readTagArea_quiet h
  · cases h
    exact readMmioReg_quiet ..
  · cases h
    exact piReadWord_quiet ..

theorem mmioStore_quiet {s t : State} {a v : Word} (h : s.mmioStore a v = .ok t) : Quiet s t := by
  unfold State.mmioStore at h
  dsimp only at h
  split at h
  · cases h
    exact .refl s
  · split at h
    · cases h
      exact requestPowerDown_quiet s
    · exact writeMmioReg_quiet h
  · cases h
    exact piTransaction_quiet ..

/-! ### Loads and stores -/

theorem memRead_quiet {s : State} {n : Width} {a : Word} {p : Word × State} (h : s.memRead n a = .ok p) :
    Quiet s p.2 := by
  unfold State.memRead at h
  dsimp only at h
  split at h
  · cases h
    exact .refl s
  · split at h
    · exact mmioLoad_quiet h
    · cases h
      exact drawn_quiet s
  · cases h
    exact dAccess_quiet ..
  · cases h
    exact .refl s
  · cases h
    exact piReadWord_quiet ..

theorem memWrite_quiet {s t : State} {n : Width} {a v : Word} (h : s.memWrite n a v = .ok t) : Quiet s t := by
  unfold State.memWrite at h
  dsimp only at h
  split at h
  · cases h
    exact .refl s
  · split at h
    · exact mmioStore_quiet h
    · cases h
  · cases h
    exact (dAccess_quiet ..).trans (setLineBytes_quiet ..)
  · cases h
    exact ⟨by constructor <;> rfl, fun h => mem_writeList_wf _ _ _ h, rfl, rfl, id, id⟩
  · cases h
    exact piTransaction_quiet ..

theorem spoilLoad_quiet (s : State) (y x : Access) : Quiet s (s.spoilLoad y x) := by
  unfold State.spoilLoad
  split
  · refine ⟨by constructor <;> rfl, id, rfl, ?_, id, id⟩
    simp only [List.map_map]
    refine List.map_congr_left fun r _ => ?_
    simp only [Function.comp_apply]
    split <;> rfl
  · exact .refl s

theorem spoilLoads_quiet (y : Access) (xs : List Access) (s : State) :
    Quiet s (xs.foldl (fun t x => t.spoilLoad y x) s) := by
  induction xs generalizing s with
  | nil => exact .refl s
  | cons x xs ih => exact (spoilLoad_quiet ..).trans (ih _)

theorem logAccess_quiet (s : State) (x : Access) : Quiet s (s.logAccess x) :=
  ⟨by constructor <;> rfl, id, rfl, rfl, id, id⟩

/-- What observing one access changes: the count of data breakpoint events and the index of the next free value. -/
theorem observe_spec (s : State) (x : Access) :
    s.observe x = { s with
      issue := { s.issue with dataBreaks := (s.observe x).issue.dataBreaks }
      freeCount := (s.observe x).freeCount } := by
  unfold State.observe
  dsimp only
  split_ifs <;> rfl

theorem observed_spec (s : State) :
    s.observed = { s with
      issue := { s.issue with dataBreaks := s.observed.issue.dataBreaks }
      freeCount := s.observed.freeCount } := by
  unfold State.observed
  generalize s.issue.accesses = xs
  induction xs with
  | nil => rfl
  | cons x xs ih =>
    rw [List.foldr_cons, observe_spec]
    rw [ih]

/-- A load: one result for its destination is on its way; nothing else that `Quiet` keeps has changed. -/
theorem performLoad_next {n : Width} {sg : Bool} {a : Word} {d : Reg} {s t : State}
    (h : performLoad n sg a d s = .next t) :
    ∃ u v, Quiet s u ∧ t = u.issueResult d v FuncUnit.dmem.latency := by
  unfold performLoad at h
  dsimp only at h
  split at h
  · cases h
  · next heq =>
    cases h
    refine ⟨_, _, ?_, rfl⟩
    refine ((memRead_quiet heq).trans ?_).trans (logAccess_quiet ..)
    split
    · exact drawn_quiet _
    · exact .refl _

theorem performStore_quiet {n : Width} {a v : Word} {s t : State} (h : performStore n a v s = .next t) : Quiet s t := by
  unfold performStore at h
  dsimp only at h
  split at h
  · cases h
  · next heq =>
    cases h
    refine Quiet.trans ?_ ((((memWrite_quiet heq).trans (spoilLoads_quiet ..)).trans
      (logAccess_quiet ..)).trans (issueFlags_quiet ..))
    split
    · exact drawn_quiet s
    · exact .refl s

/-- What an operation can do to the pending jumps and results: at most one of them is new, a result for `d`, or a jump
whose three further instructions are still to come. -/
inductive Issued (d : Option Reg) (s t : State) : Prop
  | quiet (h : Quiet s t)
  | result (u : State) (r : Reg) (v : Word) (lat : Nat) (hd : d = some r) (h : Quiet s u)
      (ht : Quiet (u.issueResult r v lat) t)
  | jump (target : Word) (i : Bool) (ht : t = { s with redirects := ⟨target, 3, i⟩ :: s.redirects })

theorem issueValue_issued {u : FuncUnit} {g d : Reg} {v : Word} {s t : State} (h : issueValue u g d v s = .next t) :
    Issued (some d) s t := by
  rw [issueValue_eq] at h
  cases h
  split
  · exact .result s d v _ rfl (.refl s) (.refl _)
  · exact .quiet (.refl s)

theorem issueFloat_issued {u : FuncUnit} {g d : Reg} {r : FpOut} {s t : State} (h : issueFloat u g d r s = .next t) :
    Issued (some d) s t := by
  rw [issueFloat_eq] at h
  cases h
  split
  · exact .result s d _ _ rfl (.refl s) (issueFlags_quiet ..)
  · exact .quiet (.refl s)

theorem jump_issued {g : Reg} {c i : Bool} {target : Word} {s t : State} (h : jump g c i target s = .next t) :
    Issued none s t := by
  rw [jump_eq] at h
  cases h
  split
  · exact .jump target i rfl
  · exact .quiet (.refl s)

theorem issueLoad_issued {n : Width} {sg : Bool} {g d : Reg} {a : Word} {s t : State}
    (h : issueLoad n sg g a d s = .next t) : Issued (some d) s t := by
  rcases guarded_next h with ⟨-, h⟩ | ⟨-, rfl⟩
  · obtain ⟨u, v, hu, rfl⟩ := performLoad_next h
    exact .result u d v _ rfl hu (.refl _)
  · exact .quiet (.refl _)

theorem issueStore_issued {n : Width} {g : Reg} {a v : Word} {s t : State} (h : issueStore n g a v s = .next t) :
    Issued none s t := by
  rcases guarded_next h with ⟨-, h⟩ | ⟨-, rfl⟩
  · exact .quiet (performStore_quiet h)
  · exact .quiet (.refl _)

/-- A guarded operation that ends in the state `f s`, which `Quiet` relates to `s`. -/
theorem guarded_quiet {g : Reg} {f : State → State} {s t : State} (hf : Quiet s (f s))
    (h : guarded g s (fun s => .next (f s)) = .next t) : Issued none s t := by
  rcases guarded_next h with ⟨-, h⟩ | ⟨-, rfl⟩
  · cases h
    exact .quiet hf
  · exact .quiet (.refl _)

theorem onFtough_issued {d : Option Reg} {f : State → Out} {s t : State} (h : onFtough f s = .next t)
    (hf : ∀ u : State, f u = .next t → Issued d u t) :
    Issued d { s with ftoughBusy := Config.ftoughRecovery } t := by
  unfold onFtough at h
  split at h
  · exact hf _ h
  · cases h

theorem selectByte_issued {g d : Reg} {ext : Byte → Word} {a b : Word} {s t : State}
    (h : selectByte g ext a b d s = .next t) : Issued (some d) s t := by
  rcases guarded_next h with ⟨-, h⟩ | ⟨-, rfl⟩
  · split at h <;> cases h
    · exact .result s d _ _ rfl (.refl s) (.refl _)
    · exact .result _ d _ _ rfl (drawn_quiet s) (.refl _)
  · exact .quiet (.refl _)

end Sys2Proof.Machine
end

