-- ==== Sys2Proof/Laws/Cache.lean ====
section
/-! SUPPORT. What a byte of memory reads as across the shared operations of the data cache: lookups, evictions, fills,
byte stores, and the agreement of the cache with what is below it. -/
namespace Sys2Proof.Machine

theorem region_of_core {s t : State} (h : s.SameCore t) (a : Word) : t.region a = s.region a := by
  unfold State.region
  rw [h.mmioBase, h.dramLo, h.dramHi, h.dramClimit, h.apert1Lo, h.apert1Hi]

/-! ### Bytes as the core sees them -/

/-- Byte `i` of the block with tag `t` in set `k`: the cached one, else the one below the cache. -/
def State.viewByte (s : State) (k : Fin 32) (t : BitVec 21) (i : Fin 64) : Byte :=
  match s.dcache[k].find t with
  | some e => s.dcache[k].lines[e].data[i]
  | none => s.lowerByte (dBlock k t) i

theorem readByte_cached {s : State} {a : Word} (h : s.region a = .dramCached) :
    s.readByte a = s.viewByte (dSet a) (dTag a) (blockOffset a) := by
  unfold State.readByte State.viewByte State.dFind State.lineByte
  rw [h]
  cases s.dcache[dSet a].find (dTag a) <;> simp only [dBlock_of_address]

theorem readByte_uncached {s : State} {a : Word} (h : s.region a = .dramUncached) : s.readByte a = s.mem.read a.toNat := by
  unfold State.readByte
  rw [h]

theorem readByte_elsewhere {s : State} {a : Word} (h : s.region a ≠ .dramCached) (h' : s.region a ≠ .dramUncached) :
    s.readByte a = 0 := by
  unfold State.readByte
  split <;> simp_all

/-- States with the same apertures, SDRAM and view of every cached block read alike. -/
theorem readByte_congr {s t : State} (hc : s.SameCore t) (hm : t.mem = s.mem)
    (hv : ∀ k tg i, t.viewByte k tg i = s.viewByte k tg i) (a : Word) : t.readByte a = s.readByte a := by
  have hr := region_of_core hc a
  cases h : s.region a with
  | dramCached => rw [readByte_cached h, readByte_cached (hr.trans h), hv]
  | dramUncached => rw [readByte_uncached h, readByte_uncached (hr.trans h), hm]
  | _ =>
    rw [readByte_elsewhere (s := s) (by simp [h]) (by simp [h]),
      readByte_elsewhere (s := t) (by simp [hr, h]) (by simp [hr, h])]

/-- What is below the cache depends on the copyback buffers and SDRAM alone. -/
theorem lowerByte_congr {s t : State} (hm : t.mem = s.mem) (hc : t.copyback = s.copyback) (b : BitVec 26) (i : Fin 64) :
    t.lowerByte b i = s.lowerByte b i := by
  unfold State.lowerByte
  rw [hm, hc]

theorem lowerBlock_get (s : State) (b : BitVec 26) (i : Fin 64) : (s.lowerBlock b)[i] = s.lowerByte b i := by
  simp [State.lowerBlock]

/-- Two states with the same bytes of a block below the cache have the same block there. -/
theorem lowerBlock_congr {s t : State} {b : BitVec 26} (h : ∀ i, s.lowerByte b i = t.lowerByte b i) :
    s.lowerBlock b = t.lowerBlock b := by
  unfold State.lowerBlock
  congr 1
  funext i
  exact h i

/-- A block with the bytes of the one below the cache is that one. -/
theorem eq_lowerBlock {s : State} {b : BitVec 26} {d : Block} (h : ∀ i : Fin 64, d[i] = s.lowerByte b i) :
    d = s.lowerBlock b := by
  apply Vector.ext
  intro i hi
  exact (h ⟨i, hi⟩).trans (lowerBlock_get s b ⟨i, hi⟩).symm

/-! ### Coherence -/

/-- Where the cache agrees with what is below it, so does a state with the same cached blocks and the same blocks below. -/
theorem coherent_congr {s t : State} (h : s.Coherent) (hm : t.mem = s.mem) (hc : t.copyback = s.copyback)
    (hl : ∀ (k : Fin 32) (e : Fin 8), t.dcache[k].lines[e] = s.dcache[k].lines[e]) : t.Coherent := by
  refine ⟨fun k e e' => by rw [hl, hl]; exact h.1 k e e', fun k e hv hd => ?_⟩
  rw [hl] at hv hd ⊢
  rw [h.2 k e hv hd]
  exact lowerBlock_congr fun i => (lowerByte_congr hm hc _ i).symm

theorem viewByte_congr {s t : State} (hm : t.mem = s.mem) (hc : t.copyback = s.copyback)
    (hl : ∀ (k : Fin 32) (e : Fin 8), t.dcache[k].lines[e] = s.dcache[k].lines[e]) (k : Fin 32) (tg : BitVec 21)
    (i : Fin 64) : t.viewByte k tg i = s.viewByte k tg i := by
  have hf : t.dcache[k].find tg = s.dcache[k].find tg := find_congr tg fun e => by rw [hl k e]; exact ⟨rfl, rfl⟩
  unfold State.viewByte
  rw [hf]
  cases s.dcache[k].find tg with
  | some e => exact congrArg (fun l : Line 21 => l.data[i]) (hl k e)
  | none => exact lowerByte_congr hm hc _ _

/-! ### Eviction and fill -/

theorem evict_mem (s : State) (k : Fin 32) (e : Fin 8) : (s.evict k e).mem = s.mem := by
  unfold State.evict
  dsimp only
  split <;> rfl

/-- Below the cache an eviction changes the evicted dirty block alone. -/
theorem evict_lowerByte (s : State) (k : Fin 32) (e : Fin 8) (b : BitVec 26) (i : Fin 64) :
    (s.evict k e).lowerByte b i =
      if s.dcache[k].lines[e].valid = true ∧ s.dcache[k].lines[e].dirty = true ∧ dBlock k s.dcache[k].lines[e].tag = b
      then s.dcache[k].lines[e].data[i] else s.lowerByte b i := by
  unfold State.evict
  dsimp only
  split
  · next h =>
    simp only [Bool.and_eq_true] at h
    by_cases hb : dBlock k s.dcache[k].lines[e].tag = b
    · rw [if_pos ⟨h.1, h.2, hb⟩]
      unfold State.lowerByte
      rw [cacheEvent_copyback, List.find?_cons_of_pos (by simpa using hb)]
    · rw [if_neg (fun hc => hb hc.2.2)]
      unfold State.lowerByte
      rw [cacheEvent_copyback, List.find?_cons_of_neg (by simpa using hb)]
      rfl
  · next h =>
    simp only [Bool.and_eq_true, not_and] at h
    rw [if_neg (fun hc => h hc.1 hc.2.1)]

theorem takeVictim_mem (s : State) (k : Fin 32) : (s.takeVictim k).2.mem = s.mem := by
  obtain ⟨u, rfl | rfl, h⟩ := takeVictim_eq s k <;> rw [h, evict_mem]
  rfl

theorem takeVictim_lowerByte {s : State} {k : Fin 32} {w : Fin 8} (hw : (s.takeVictim k).1 = w) (b : BitVec 26)
    (i : Fin 64) : (s.takeVictim k).2.lowerByte b i =
      if s.dcache[k].lines[w].valid = true ∧ s.dcache[k].lines[w].dirty = true ∧ dBlock k s.dcache[k].lines[w].tag = b
      then s.dcache[k].lines[w].data[i] else s.lowerByte b i := by
  subst hw
  obtain ⟨u, hu, h⟩ := takeVictim_eq s k
  rw [h, evict_lowerByte]
  rcases hu with rfl | rfl <;> rfl

/-- A block placed over a victim, where no tag was twice in the set and the block was not there: its bytes are the new
ones, every other block reads as before, and the cache agrees with what is below it where the new block does. -/
theorem place_over_victim (s u : State) (k : Fin 32) (w : Fin 8) (t : BitVec 21) (dirty : Bool) (d : Block)
    (hs : s.Coherent) (hw : (s.takeVictim k).1 = w) (hf : s.dcache[k].find t = none) (hd : u.dcache = s.dcache)
    (hl : ∀ b i, u.lowerByte b i = (s.takeVictim k).2.lowerByte b i) :
    let v := u.place k w t dirty d
    v.tagsOk ∧ (∀ k' t' i, (k', t') ≠ (k, t) → v.viewByte k' t' i = s.viewByte k' t' i)
      ∧ (∀ i, v.viewByte k t i = d[i]) ∧ v.dcache[k].find t = some w
      ∧ ((dirty = false → ∀ i : Fin 64, d[i] = (s.takeVictim k).2.lowerByte (dBlock k t) i) → v.Coherent) := by
  intro v
  have hlow : ∀ b i, v.lowerByte b i = if s.dcache[k].lines[w].valid = true ∧ s.dcache[k].lines[w].dirty = true
      ∧ dBlock k s.dcache[k].lines[w].tag = b then s.dcache[k].lines[w].data[i] else s.lowerByte b i := by
    intro b i
    rw [show v.lowerByte b i = u.lowerByte b i from lowerByte_congr rfl rfl b i, hl, takeVictim_lowerByte hw]
  have hlines : ∀ (j : Fin 32) (f : Fin 8), v.dcache[j].lines[f] =
      if j = k ∧ f = w then ⟨true, dirty, s.dcache[k].lines[w].locked, t, d⟩ else s.dcache[j].lines[f] := by
    intro j f
    rw [show v.dcache[j].lines[f] = _ from place_lines .., hd]
  have hold := find_none.1 hf
  have htags : v.tagsOk := by
    intro j e e' hv hv' he
    rw [hlines, hlines] at he
    rw [hlines] at hv hv'
    by_cases h1 : j = k ∧ e = w <;> by_cases h2 : j = k ∧ e' = w
    · exact h1.2.trans h2.2.symm
    · rw [if_pos h1, if_neg h2] at he
      rw [if_neg h2] at hv'
      obtain ⟨rfl, -⟩ := h1
      exact absurd he.symm (hold e' hv')
    · rw [if_neg h1, if_pos h2] at he
      rw [if_neg h1] at hv
      obtain ⟨rfl, -⟩ := h2
      exact absurd he (hold e hv)
    · rw [if_neg h1, if_neg h2] at he
      rw [if_neg h1] at hv
      rw [if_neg h2] at hv'
      exact hs.1 j e e' hv hv' he
  have hfind : v.dcache[k].find t = some w := by
    apply find_of (htags k) <;> rw [hlines, if_pos ⟨rfl, rfl⟩]
  refine ⟨htags, ?_, ?_, hfind, ?_⟩
  · intro k' t' i hne
    unfold State.viewByte
    cases h : s.dcache[k'].find t' with
    | some e =>
      obtain ⟨hv, ht⟩ := find_some h
      by_cases he : k' = k ∧ e = w
      · obtain ⟨rfl, rfl⟩ := he
        have hnone : v.dcache[k'].find t' = none := by
          rw [find_none]
          intro f hfv hft
          rw [hlines] at hfv hft
          by_cases hfe : f = e
          · rw [if_pos ⟨rfl, hfe⟩] at hft
            exact hne (by rw [← hft])
          · rw [if_neg (fun h => hfe h.2)] at hfv hft
            exact hfe (hs.1 k' f e hfv hv (hft.trans ht.symm))
        rw [hnone]
        simp only
        rw [hlow]
        by_cases hdirty : s.dcache[k'].lines[e].dirty = true
        · rw [if_pos ⟨hv, hdirty, by rw [ht]⟩]
        · rw [if_neg (fun hc => hdirty hc.2.1), hs.2 k' e hv (by simpa using hdirty), lowerBlock_get, ht]
      · have hsome : v.dcache[k'].find t' = some e := by
          apply find_of (htags k') <;> rw [hlines, if_neg he] <;> assumption
        rw [hsome]
        simp only
        rw [hlines, if_neg he]
    | none =>
      have hnone : v.dcache[k'].find t' = none := by
        rw [find_none] at h ⊢
        intro f hfv hft
        rw [hlines] at hfv hft
        by_cases hfe : k' = k ∧ f = w
        · rw [if_pos hfe] at hft
          exact hne (by rw [← hft, hfe.1])
        · rw [if_neg hfe] at hfv hft
          exact h f hfv hft
      rw [hnone]
      simp only
      rw [hlow, if_neg]
      rintro ⟨hv, -, hb⟩
      obtain ⟨rfl, rfl⟩ := dBlock_inj hb
      exact find_none.1 h w hv rfl
  · intro i
    unfold State.viewByte
    rw [hfind]
    simp only
    rw [hlines, if_pos ⟨rfl, rfl⟩]
  · intro hclean
    refine ⟨htags, fun j e hv hdv => ?_⟩
    rw [hlines] at hv hdv ⊢
    by_cases he : j = k ∧ e = w
    · obtain ⟨rfl, rfl⟩ := he
      rw [if_pos ⟨rfl, rfl⟩] at hdv ⊢
      refine eq_lowerBlock fun i => ?_
      have hx := hclean hdv i
      rw [← hl] at hx
      exact hx.trans (lowerByte_congr rfl rfl _ _).symm
    · rw [if_neg he] at hv hdv ⊢
      rw [hs.2 j e hv hdv]
      refine lowerBlock_congr fun i => ?_
      rw [hlow, if_neg]
      rintro ⟨hwv, -, hb⟩
      obtain ⟨rfl, ht⟩ := dBlock_inj hb
      exact he ⟨rfl, (hs.1 _ w e hwv hv ht).symm⟩

/-! ### Cached accesses -/

theorem dAccess_hit {s : State} {a : Word} {e : Fin 8} (miss : Fin 16) (h : s.dFind a = some e) :
    s.dAccess a miss = (e, s.setDSet (dSet a) (s.dcache[dSet a].reference e)) := by
  unfold State.dAccess
  rw [h]

theorem dAccess_miss {s : State} {a : Word} (miss : Fin 16) (h : s.dFind a = none) :
    s.dAccess a miss = ((s.cacheEvent miss).startFetch (blockOf a) false).fill a := by
  unfold State.dAccess
  rw [h]

/-- A fill of a block that is not in the cache: every byte reads as before, SDRAM is as before, cache and memory still
agree, and the block is in the element the fill answers. -/
theorem fill_spec {s : State} {a : Word} (hs : s.Coherent) (hf : s.dFind a = none) :
    (s.fill a).2.Coherent ∧ (s.fill a).2.mem = s.mem ∧ (∀ k t i, (s.fill a).2.viewByte k t i = s.viewByte k t i)
      ∧ (s.fill a).2.dFind a = some (s.fill a).1 := by
  obtain ⟨-, h2, h3, h4, h5⟩ := place_over_victim s (s.takeVictim (dSet a)).2 (dSet a) _ (dTag a) false
    ((s.takeVictim (dSet a)).2.lowerBlock (blockOf a)) hs rfl hf (takeVictim_dcache ..) (fun _ _ => rfl)
  have hd : ∀ i : Fin 64, ((s.takeVictim (dSet a)).2.lowerBlock (blockOf a))[i] =
      (s.takeVictim (dSet a)).2.lowerByte (dBlock (dSet a) (dTag a)) i := fun i => by
    rw [dBlock_of_address]
    exact lowerBlock_get ..
  refine ⟨h5 fun _ => hd, takeVictim_mem .., fun k t i => ?_, h4⟩
  by_cases hk : (k, t) = (dSet a, dTag a)
  · obtain ⟨rfl, rfl⟩ := Prod.mk.inj hk
    rw [show (s.fill a).2.viewByte (dSet a) (dTag a) i = _ from h3 i, hd, takeVictim_lowerByte rfl, if_neg]
    · unfold State.viewByte
      rw [show s.dcache[dSet a].find (dTag a) = none from hf]
    · rintro ⟨hv, -, hb⟩
      exact find_none.1 hf _ hv (dBlock_inj hb).2
  · exact h2 k t i hk

/-- A cached access leaves every byte, SDRAM and the agreement of cache and memory as they were, and answers the element
that then holds the block. -/
theorem dAccess_spec {s : State} {a : Word} (miss : Fin 16) (hs : s.Coherent) :
    (s.dAccess a miss).2.Coherent ∧ (s.dAccess a miss).2.mem = s.mem
      ∧ (∀ k t i, (s.dAccess a miss).2.viewByte k t i = s.viewByte k t i)
      ∧ (s.dAccess a miss).2.dFind a = some (s.dAccess a miss).1 := by
  cases h : s.dFind a with
  | some e =>
    rw [dAccess_hit miss h]
    have hl := reference_lines s (dSet a) e
    refine ⟨coherent_congr hs rfl rfl hl, rfl, viewByte_congr rfl rfl hl, ?_⟩
    rw [← h]
    exact find_congr _ fun f => by
      rw [show (s.setDSet (dSet a) (s.dcache[dSet a].reference e)).dcache[dSet a].lines[f] = _ from hl ..]
      exact ⟨rfl, rfl⟩
  | none =>
    rw [dAccess_miss miss h]
    exact fill_spec (s := (s.cacheEvent miss).startFetch (blockOf a) false) hs h

/-- The end of an outstanding fetch leaves every byte, SDRAM and the agreement of cache and memory as they were. -/
theorem finishFetch_spec {s : State} (hs : s.Coherent) :
    s.finishFetch.Coherent ∧ s.finishFetch.mem = s.mem
      ∧ ∀ k t i, s.finishFetch.viewByte k t i = s.viewByte k t i := by
  unfold State.finishFetch
  split
  · exact ⟨hs, rfl, fun _ _ _ => rfl⟩
  · next f _ =>
    dsimp only
    split
    · next h =>
      simp only [Bool.and_eq_true, Option.isNone_iff_eq_none] at h
      obtain ⟨h1, h2, h3, -⟩ := fill_spec (s := { s with fetches := s.fetches.dropLast }) hs h.2
      exact ⟨h1, h2, h3⟩
    · exact ⟨hs, rfl, fun _ _ _ => rfl⟩

/-- What a fill changes: the data cache, its copyback buffers, the cache events and the index of the next free value. -/
theorem fill_frame (s : State) (a : Word) : (s.fill a).2 = { s with
    dcache := (s.fill a).2.dcache
    copyback := (s.fill a).2.copyback
    cacheEvents := (s.fill a).2.cacheEvents
    freeCount := (s.fill a).2.freeCount } := by
  unfold State.fill State.takeVictim State.evict State.place State.setDSet State.drawNat State.drawn State.cacheEvent
    State.countEvent
  dsimp only
  split_ifs <;> rfl

/-- What the end of an outstanding fetch changes: what a fill does, and the oldest fetch is gone. -/
theorem finishFetch_frame (s : State) : s.finishFetch = { s with
    dcache := s.finishFetch.dcache
    copyback := s.finishFetch.copyback
    cacheEvents := s.finishFetch.cacheEvents
    fetches := s.fetches.dropLast
    freeCount := s.finishFetch.freeCount } := by
  unfold State.finishFetch
  split
  · next h =>
    rw [List.getLast?_eq_none_iff] at h
    cases s
    simp_all
  · dsimp only
    split_ifs
    · rw [fill_frame]
    · rfl

/-- Below the cache a fill changes at most a dirty block that it evicts. -/
theorem fill_lowerByte (s : State) (a : Word) (b : BitVec 26) (i : Fin 64) :
    (s.fill a).2.lowerByte b i = s.lowerByte b i
    ∨ ∃ (k : Fin 32) (e : Fin 8), s.dcache[k].lines[e].valid = true ∧ s.dcache[k].lines[e].dirty = true
      ∧ dBlock k s.dcache[k].lines[e].tag = b ∧ (s.fill a).2.lowerByte b i = s.dcache[k].lines[e].data[i] := by
  rw [show (s.fill a).2.lowerByte b i = (s.takeVictim (dSet a)).2.lowerByte b i from lowerByte_congr rfl rfl b i,
    takeVictim_lowerByte rfl]
  split
  · next h => exact .inr ⟨_, _, h.1, h.2.1, h.2.2, rfl⟩
  · exact .inl rfl

/-! ### Bytes put into the cache -/

theorem setLineByte_find (s : State) (a : Word) (e : Fin 8) (b : Byte) (k : Fin 32) (t : BitVec 21) :
    (s.setLineByte a e b).dcache[k].find t = s.dcache[k].find t := by
  refine find_congr t fun f => ?_
  rw [setLineByte_lines]
  split
  · next h => rw [h.1, h.2]; exact ⟨rfl, rfl⟩
  · exact ⟨rfl, rfl⟩

/-- A byte put into the element that holds its block is that byte; every other byte reads as before. -/
theorem setLineByte_view {s : State} {a : Word} {e : Fin 8} (b : Byte) (h : s.dFind a = some e) (k : Fin 32)
    (t : BitVec 21) (i : Fin 64) : (s.setLineByte a e b).viewByte k t i =
      if k = dSet a ∧ t = dTag a ∧ i = blockOffset a then b else s.viewByte k t i := by
  have hl := lowerByte_congr (s := s) (t := s.setLineByte a e b) rfl rfl
  unfold State.viewByte
  rw [setLineByte_find]
  cases hf : s.dcache[k].find t with
  | none =>
    simp only
    rw [hl, if_neg]
    rintro ⟨rfl, rfl, -⟩
    rw [show s.dcache[dSet a].find (dTag a) = some e from h] at hf
    cases hf
  | some f =>
    simp only
    rw [setLineByte_lines]
    by_cases hk : k = dSet a ∧ f = e
    · obtain ⟨rfl, rfl⟩ := hk
      have ht : t = dTag a := (find_some hf).2.symm.trans (find_some h).2
      rw [if_pos ⟨rfl, rfl⟩]
      by_cases hi : i = blockOffset a
      · subst hi
        rw [if_pos ⟨rfl, ht, rfl⟩]
        simp
      · rw [if_neg (fun hc => hi hc.2.2)]
        simp only [Fin.getElem_fin]
        rw [Vector.getElem_set_ne _ _ (fun hc => hi (Fin.ext hc.symm))]
    · rw [if_neg hk, if_neg]
      rintro ⟨rfl, rfl, -⟩
      rw [show s.dcache[dSet a].find (dTag a) = some e from h] at hf
      exact hk ⟨rfl, (Option.some.inj hf).symm⟩

/-- The byte at address `a` as a cached access sees it. -/
def State.viewAt (s : State) (a : Word) : Byte := s.viewByte (dSet a) (dTag a) (blockOffset a)

/-- Set, tag and offset determine the address. -/
theorem address_inj {a c : Word} (hk : dSet c = dSet a) (ht : dTag c = dTag a) (ho : blockOffset c = blockOffset a) :
    c = a := by
  rw [← blockBase_add_offset c, ← blockBase_add_offset a, ← dBlock_of_address, ← dBlock_of_address, hk, ht, ho]

theorem setLineByte_viewAt {s : State} {a : Word} {e : Fin 8} (b : Byte) (h : s.dFind a = some e) (c : Word) :
    (s.setLineByte a e b).viewAt c = if c = a then b else s.viewAt c := by
  unfold State.viewAt
  rw [setLineByte_view b h]
  by_cases hc : c = a
  · subst hc
    simp
  · rw [if_neg hc, if_neg (fun h => hc (address_inj h.1 h.2.1 h.2.2))]

/-- Addresses of one block have the same set and tag. -/
theorem dFind_block {s : State} {a c : Word} (h : blockOf c = blockOf a) : s.dFind c = s.dFind a := by
  rw [← dBlock_of_address, ← dBlock_of_address] at h
  obtain ⟨hk, ht⟩ := dBlock_inj h
  show (fun k t => s.dcache[(k : Fin 32)].find t) (dSet c) (dTag c) = _
  rw [hk, ht]
  rfl

/-- Bytes put into the element that holds their block are read back, and every other byte reads as before. -/
theorem setLineBytes_viewAt {s : State} {a : Word} {e : Fin 8} (bs : List Byte) (h : s.dFind a = some e)
    (hb : ∀ i < bs.length, blockOf (a + BitVec.ofNat 32 i) = blockOf a) (hn : bs.length ≤ 64) (c : Word) :
    (s.setLineBytes a e bs).viewAt c = (bs[(c - a).toNat]?).getD (s.viewAt c) := by
  induction bs generalizing s a with
  | nil => rfl
  | cons b bs ih =>
    simp only [List.length_cons] at hb hn
    rw [State.setLineBytes]
    by_cases hl : bs = []
    · subst hl
      rw [State.setLineBytes, setLineByte_viewAt b h]
      by_cases hc : c = a
      · subst hc
        simp
      · rw [if_neg hc, List.getElem?_eq_none]
        · rfl
        · have : (c - a).toNat ≠ 0 := fun h0 => hc (by bv_omega)
          simp only [List.length_singleton]
          omega
    · have hpos : 0 < bs.length := List.length_pos_iff.2 hl
      have h1 : blockOf (a + 1) = blockOf a := hb 1 (by omega)
      have hf : (s.setLineByte a e b).dFind (a + 1) = some e := by
        rw [dFind_block h1, ← h]
        exact setLineByte_find ..
      rw [ih hf ?_ (by omega), setLineByte_viewAt b h]
      · by_cases hc : c = a
        · subst hc
          rw [if_pos rfl, List.getElem?_eq_none]
          · simp
          · have : (c - (c + 1)).toNat = 2 ^ 32 - 1 := by bv_omega
            omega
        · rw [if_neg hc]
          have : (c - a).toNat = (c - (a + 1)).toNat + 1 := by
            have : c.toNat ≠ a.toNat := fun h0 => hc (BitVec.eq_of_toNat_eq h0)
            bv_omega
          rw [this, List.getElem?_cons_succ]
      · intro i hi
        rw [h1, ← hb (i + 1) (by omega)]
        congr 1
        rw [BitVec.add_assoc]
        congr 1
        bv_omega

theorem setLineBytes_keeps (s : State) (a : Word) (e : Fin 8) (bs : List Byte) :
    (s.setLineBytes a e bs).mem = s.mem ∧ (s.setLineBytes a e bs).copyback = s.copyback := by
  induction bs generalizing s a with
  | nil => exact ⟨rfl, rfl⟩
  | cons b bs ih => exact ih ..

/-! ### Below the cache -/

theorem blockBase_toNat (k : BitVec 26) : (blockBase k).toNat = k.toNat * 64 := by
  simp only [blockBase, BitVec.toNat_append, BitVec.ofNat_eq_ofNat, BitVec.toNat_ofNat, Nat.zero_mod, Nat.or_zero,
    Nat.shiftLeft_eq]

/-- A byte of a block after a block has been written to SDRAM. -/
theorem mem_read_writeBlock (m : Mem) (k b : BitVec 26) (d : Block) (i : Fin 64) (hm : m.wf = true) :
    (m.writeBlock k d).read (blockBase b + BitVec.ofNat 32 i.val).toNat =
      if b = k then d[i] else m.read (blockBase b + BitVec.ofNat 32 i.val).toNat := by
  have hi := i.isLt
  unfold Mem.writeBlock
  by_cases h : b = k
  · subst h
    rw [if_pos rfl, mem_read_writeList_at _ _ _ i.val hm (by simp) (by simp)]
    simp
  · rw [if_neg h, mem_read_writeList_other _ _ _ _ hm]
    have hb := blockBase_toNat b
    have hk := blockBase_toNat k
    have hne : b.toNat ≠ k.toNat := fun e => h (BitVec.eq_of_toNat_eq e)
    have hbl := b.isLt
    have hkl := k.isLt
    simp only [Vector.length_toList]
    rw [BitVec.toNat_sub, BitVec.toNat_add, BitVec.toNat_ofNat, hb, hk]
    omega

theorem drainAll_read (cs : List CopyBack) (m : Mem) (b : BitVec 26) (i : Fin 64) (hm : m.wf = true) :
    (drainAll cs m).read (blockBase b + BitVec.ofNat 32 i.val).toNat =
      match cs.find? fun c => decide (c.block = b) with
      | some c => c.data[i]
      | none => m.read (blockBase b + BitVec.ofNat 32 i.val).toNat := by
  induction cs with
  | nil => rfl
  | cons c cs ih =>
    rw [drainAll, mem_read_writeBlock _ _ _ _ _ (drainAll_wf cs m hm)]
    by_cases h : c.block = b
    · rw [if_pos h.symm, List.find?_cons_of_pos (by simpa using h)]
    · rw [if_neg (fun e => h e.symm), List.find?_cons_of_neg (by simpa using h), ih]

/-- Emptying the copyback buffers changes no byte below the cache. -/
theorem drained_lowerByte (s : State) (b : BitVec 26) (i : Fin 64) (hm : s.mem.wf = true) :
    s.drained.lowerByte b i = s.lowerByte b i := by
  show (drainAll s.copyback s.mem).read _ = _
  rw [drainAll_read _ _ _ _ hm]
  rfl

/-- Once the copyback buffers are empty, SDRAM has every byte that was below the cache. -/
theorem drained_read (s : State) (a : Word) (hm : s.mem.wf = true) :
    s.drained.mem.read a.toNat = s.lowerByte (blockOf a) (blockOffset a) := by
  rw [← drained_lowerByte s _ _ hm]
  show _ = s.drained.mem.read (blockBase (blockOf a) + BitVec.ofNat 32 (blockOffset a).val).toNat
  rw [blockBase_add_offset]

/-! ### Aligned accesses -/

theorem align_toNat (n : Width) (a : Word) : (align n a).toNat = a.toNat / n.bytes * n.bytes := by
  have mask : ∀ k : Nat, k ≤ 32 → (a &&& (BitVec.allOnes 32 <<< k)).toNat = a.toNat / 2 ^ k * 2 ^ k := by
    intro k hk
    apply Nat.eq_of_testBit_eq
    intro j
    rw [← Nat.shiftRight_eq_div_pow, ← Nat.shiftLeft_eq, Nat.testBit_shiftLeft, Nat.testBit_shiftRight,
      ← BitVec.getLsbD, BitVec.getLsbD_and, BitVec.getLsbD_shiftLeft, BitVec.getLsbD_allOnes, BitVec.getLsbD]
    by_cases h32 : j < 32
    · by_cases hj : k ≤ j
      · rw [show k + (j - k) = j by omega]
        simp [h32, hj, show j - k < 32 by omega]
      · simp [h32, hj]
    · simp only [h32, decide_false, Bool.false_and, Bool.and_false]
      rw [Nat.testBit_lt_two_pow (Nat.lt_of_lt_of_le a.isLt (Nat.pow_le_pow_right (by omega) (by omega)))]
      simp
  cases n with
  | b1 => simp [align, Width.bytes]
  | b2 => exact mask 1 (by omega)
  | b4 => exact mask 2 (by omega)

/-- The bytes of an aligned access lie in one block. -/
theorem align_block (n : Width) (a : Word) {i : Nat} (hi : i < n.bytes) :
    blockOf (align n a + BitVec.ofNat 32 i) = blockOf (align n a) := by
  have h := align_toNat n a
  have hl := a.isLt
  apply BitVec.eq_of_toNat_eq
  simp only [blockOf, BitVec.extractLsb'_toNat, Nat.shiftRight_eq_div_pow, BitVec.toNat_add, BitVec.toNat_ofNat]
  cases n <;> simp only [Width.bytes] at h hi <;> omega

/-- A multiple of 64 KB separates no two bytes of an aligned access. -/
theorem le_align (n : Width) (a x : Word) {i : Nat} (hi : i < n.bytes) (hx : x &&& 0xFFFF = 0) :
    (x ≤ align n a + BitVec.ofNat 32 i ↔ x ≤ align n a) := by
  have h := align_toNat n a
  have hl := a.isLt
  have h0 : x.toNat % 2 ^ 16 = 0 := by
    rw [← Nat.and_two_pow_sub_one_eq_mod]
    simpa using congrArg BitVec.toNat hx
  rw [BitVec.le_def, BitVec.le_def, BitVec.toNat_add, BitVec.toNat_ofNat]
  cases n <;> simp only [Width.bytes] at h hi <;> omega

/-- The bytes of an aligned access lie in one aperture, where the aperture registers keep their alignment. -/
theorem region_align {s : State} (hs : s.alignedOk = true) (n : Width) (a : Word) {i : Nat} (hi : i < n.bytes) :
    s.region (align n a + BitVec.ofNat 32 i) = s.region (align n a) := by
  simp only [State.alignedOk, Bool.and_eq_true, decide_eq_true_eq] at hs
  obtain ⟨⟨⟨⟨⟨h1, h2⟩, h3⟩, h4⟩, h5⟩, -⟩ := hs
  have hm : (align n a + BitVec.ofNat 32 i).extractLsb' 21 11 = (align n a).extractLsb' 21 11 := by
    have h := align_toNat n a
    have hl := a.isLt
    apply BitVec.eq_of_toNat_eq
    simp only [BitVec.extractLsb'_toNat, Nat.shiftRight_eq_div_pow, BitVec.toNat_add, BitVec.toNat_ofNat]
    cases n <;> simp only [Width.bytes] at h hi <;> omega
  unfold State.region
  simp only [hm, ← BitVec.not_le, le_align n a _ hi, h1, h2, h3, h4, h5]

end Sys2Proof.Machine
end

