-- ==== Sys2Proof/Laws/Encoding.lean ====
section
/-! SUPPORT. What the encoder packs, the decoder unpacks: one lemma per field and per modifier kind. -/
namespace Sys2Proof

/-! ### Fields -/

theorem extract_append_low {a b : Nat} (x : BitVec a) (y : BitVec b) : (x ++ y).extractLsb' 0 b = y := by
  ext i hi
  simp [BitVec.getLsbD_append, hi]

theorem extract_append_high {a b : Nat} (x : BitVec a) (y : BitVec b) (k n : Nat) :
    (x ++ y).extractLsb' (b + k) n = x.extractLsb' k n := by
  ext i hi
  simp [BitVec.getLsbD_append, Nat.add_assoc]

theorem extract_zero {n : Nat} (x : BitVec n) : x.extractLsb' 0 n = x := by
  ext i hi
  simp

theorem packFields_code (c : BitVec 8) (n : BitVec 5) (f : Fields) : (packFields c n f).code = c :=
  extract_append_low (n ++ f.m ++ f.d ++ f.s2 ++ f.s1 ++ f.g) c

theorem packFields_fields (c : BitVec 8) (n : BitVec 5) (f : Fields) : (packFields c n f).fields = f := by
  obtain ⟨g, s1, s2, d, m⟩ := f
  show Fields.mk _ _ _ _ _ = _
  congr 1
  · exact (extract_append_high (n ++ m ++ d ++ s2 ++ s1 ++ g) c 0 7).trans
      (extract_append_low (n ++ m ++ d ++ s2 ++ s1) g)
  · exact (extract_append_high (n ++ m ++ d ++ s2 ++ s1 ++ g) c 7 7).trans <|
      (extract_append_high (n ++ m ++ d ++ s2 ++ s1) g 0 7).trans <|
      extract_append_low (n ++ m ++ d ++ s2) s1
  · exact (extract_append_high (n ++ m ++ d ++ s2 ++ s1 ++ g) c 14 7).trans <|
      (extract_append_high (n ++ m ++ d ++ s2 ++ s1) g 7 7).trans <|
      (extract_append_high (n ++ m ++ d ++ s2) s1 0 7).trans <|
      extract_append_low (n ++ m ++ d) s2
  · exact (extract_append_high (n ++ m ++ d ++ s2 ++ s1 ++ g) c 21 7).trans <|
      (extract_append_high (n ++ m ++ d ++ s2 ++ s1) g 14 7).trans <|
      (extract_append_high (n ++ m ++ d ++ s2) s1 7 7).trans <|
      (extract_append_high (n ++ m ++ d) s2 0 7).trans <|
      extract_append_low (n ++ m) d
  · exact (extract_append_high (n ++ m ++ d ++ s2 ++ s1 ++ g) c 28 7).trans <|
      (extract_append_high (n ++ m ++ d ++ s2 ++ s1) g 21 7).trans <|
      (extract_append_high (n ++ m ++ d ++ s2) s1 14 7).trans <|
      (extract_append_high (n ++ m ++ d) s2 7 7).trans <|
      (extract_append_high (n ++ m) d 0 7).trans <|
      extract_append_low n m

theorem packFields_top (c : BitVec 8) (n : BitVec 5) (f : Fields) : (packFields c n f).extractLsb' 43 5 = n :=
  (extract_append_high (n ++ f.m ++ f.d ++ f.s2 ++ f.s1 ++ f.g) c 35 5).trans <|
    (extract_append_high (n ++ f.m ++ f.d ++ f.s2 ++ f.s1) f.g 28 5).trans <|
    (extract_append_high (n ++ f.m ++ f.d ++ f.s2) f.s1 21 5).trans <|
    (extract_append_high (n ++ f.m ++ f.d) f.s2 14 5).trans <|
    (extract_append_high (n ++ f.m) f.d 7 5).trans <|
    (extract_append_high n f.m 0 5).trans (extract_zero n)

theorem packImm_code (c : BitVec 8) (n : BitVec 1) (r : Reg) (v : Word) : (packImm c n r v).code = c :=
  extract_append_low (n ++ v ++ r) c

theorem packImm_immReg (c : BitVec 8) (n : BitVec 1) (r : Reg) (v : Word) : (packImm c n r v).immReg = r :=
  (extract_append_high (n ++ v ++ r) c 0 7).trans (extract_append_low (n ++ v) r)

theorem packImm_imm (c : BitVec 8) (n : BitVec 1) (r : Reg) (v : Word) : (packImm c n r v).imm = v :=
  (extract_append_high (n ++ v ++ r) c 7 32).trans <|
    (extract_append_high (n ++ v) r 0 32).trans (extract_append_low n v)

theorem packImm_top (c : BitVec 8) (n : BitVec 1) (r : Reg) (v : Word) : (packImm c n r v).extractLsb' 47 1 = n :=
  (extract_append_high (n ++ v ++ r) c 39 1).trans <|
    (extract_append_high (n ++ v) r 32 1).trans <|
    (extract_append_high n v 0 1).trans (extract_zero n)

/-- Equal arguments give equal values of a function of two arguments. -/
theorem congr_two {α β γ : Type} (f : α → β → γ) {a a' : α} {b b' : β} (ha : a = a') (hb : b = b') : f a b = f a' b' :=
  ha ▸ hb ▸ rfl

theorem packFields_name (c : BitVec 8) (n : BitVec 5) (f : Fields) (h : hasImm c = false) :
    (packFields c n f).name = n.toNat := by
  unfold OpWord.name
  rw [packFields_code, packFields_top, h]
  rfl

theorem packImm_name (c : BitVec 8) (n : BitVec 1) (r : Reg) (v : Word) (h : hasImm c = true) :
    (packImm c n r v).name = n.toNat := by
  unfold OpWord.name
  rw [packImm_code, packImm_top, h]
  rfl

/-- Decoding a packed record looks only at its code, its name number and its fields. -/
theorem decodeOp_packFields (c : BitVec 8) (n : BitVec 5) (f : Fields) (h : hasImm c = false) :
    decodeOp (packFields c n f) = decodeNamed (packFields c n f) f c.toNat n.toNat := by
  unfold decodeOp
  rw [packFields_code, packFields_fields, packFields_name c n f h]

/-- Decoding a packed record with a 32-bit modifier looks only at its code, its name number, its register and the
modifier. -/
theorem decodeOp_packImm (c : BitVec 8) (n : BitVec 1) (r : Reg) (v : Word) (h : hasImm c = true) :
    decodeOp (packImm c n r v) = decodeNamed (packImm c n r v) (packImm c n r v).fields c.toNat n.toNat := by
  unfold decodeOp
  rw [packImm_code, packImm_name c n r v h]

/-! ### Modifiers (R187) -/

/-- A signed field holds every multiple of its scale between -64 and 63 times the scale. -/
theorem signedField_modField (lo hi k m : Int) (hk : 0 < k) (hlo : lo = -64 * k) (hhi : hi ≤ 63 * k)
    (h : inSteps lo hi k m = true) : signedField (modField m k) k = m := by
  simp only [inSteps, Bool.and_eq_true, decide_eq_true_eq] at h
  obtain ⟨⟨h1, h2⟩, h3⟩ := h
  have hd : m = k * (m / k) := by
    have := Int.mul_ediv_add_emod m k
    omega
  have ha : -64 ≤ m / k := (Int.le_ediv_iff_mul_le hk).2 (by omega)
  have hb : m / k < 64 := Int.ediv_lt_of_lt_mul hk (by omega)
  unfold signedField modField
  rw [BitVec.toInt_ofInt, Int.bmod_eq_of_le (by omega) (by omega)]
  exact hd.symm

/-- An unsigned field holds every value from 0 to 127. -/
theorem unsignedField_modField (hi m : Int) (hhi : hi ≤ 127) (h : inSteps 0 hi 1 m = true) :
    unsignedField (modField m 1) = m := by
  simp only [inSteps, Bool.and_eq_true, decide_eq_true_eq] at h
  unfold unsignedField modField
  rw [BitVec.toNat_ofInt]
  omega

/-- A signed 32-bit modifier is held exactly. -/
theorem toInt_ofInt_imm (m : Int) (h : (Modifier.imm32 m).ok = true) : (BitVec.ofInt 32 m).toInt = m := by
  simp only [Modifier.ok, inSteps, Bool.and_eq_true, decide_eq_true_eq] at h
  rw [BitVec.toInt_ofInt, Int.bmod_eq_of_le (by omega) (by omega)]

/-- An unsigned 32-bit modifier is held exactly. -/
theorem toNat_ofInt_imm (m : Int) (h : (Modifier.uimm32 m).ok = true) : ((BitVec.ofInt 32 m).toNat : Int) = m := by
  simp only [Modifier.ok, inSteps, Bool.and_eq_true, decide_eq_true_eq] at h
  rw [BitVec.toNat_ofInt]
  omega

end Sys2Proof
end

