-- ==== Sys2Proof/Laws/PerInstr.lean ====
section
/-! SUPPORT. Statements about every operation as syntax, one lemma per constructor. -/
namespace Sys2Proof.Laws.RoundTrip

/-- Decoding the record of an operation whose modifier is legal gives the operation back. -/
def Statement (i : Instr) : Prop := i.modifierOk = true → decodeOp (encodeOp i) = .ok i

theorem alloc (g s1 : Reg) : Statement (.alloc g s1) := fun _ => decodeOp_packFields _ _ _ rfl

theorem allocd (g : Reg) (m : Int) (s1 : Reg) : Statement (.allocd g m s1) := fun h =>
  (decodeOp_packFields _ _ _ rfl).trans (congrArg (fun x => Except.ok (Instr.allocd g x s1))
    (signedField_modField (-256) 252 4 m (by omega) (by omega) (by omega) h))

theorem allocr (g s1 s2 : Reg) : Statement (.allocr g s1 s2) := fun _ => decodeOp_packFields _ _ _ rfl

theorem allocx (g s1 s2 : Reg) : Statement (.allocx g s1 s2) := fun _ => decodeOp_packFields _ _ _ rfl

theorem asl (g s1 s2 d : Reg) : Statement (.asl g s1 s2 d) := fun _ => decodeOp_packFields _ _ _ rfl

theorem asli (g : Reg) (m : Int) (s1 d : Reg) : Statement (.asli g m s1 d) := fun h =>
  (decodeOp_packFields _ _ _ rfl).trans (congrArg (fun x => Except.ok (Instr.asli g x s1 d)) (unsignedField_modField 31 m (by omega) h))

theorem asr (g s1 s2 d : Reg) : Statement (.asr g s1 s2 d) := fun _ => decodeOp_packFields _ _ _ rfl

theorem asri (g : Reg) (m : Int) (s1 d : Reg) : Statement (.asri g m s1 d) := fun h =>
  (decodeOp_packFields _ _ _ rfl).trans (congrArg (fun x => Except.ok (Instr.asri g x s1 d)) (unsignedField_modField 31 m (by omega) h))

theorem bitand (g s1 s2 d : Reg) : Statement (.bitand g s1 s2 d) := fun _ => decodeOp_packFields _ _ _ rfl

theorem bitandinv (g s1 s2 d : Reg) : Statement (.bitandinv g s1 s2 d) := fun _ => decodeOp_packFields _ _ _ rfl

theorem bitinv (g s1 d : Reg) : Statement (.bitinv g s1 d) := fun _ => decodeOp_packFields _ _ _ rfl

theorem bitor (g s1 s2 d : Reg) : Statement (.bitor g s1 s2 d) := fun _ => decodeOp_packFields _ _ _ rfl

theorem bitxor (g s1 s2 d : Reg) : Statement (.bitxor g s1 s2 d) := fun _ => decodeOp_packFields _ _ _ rfl

theorem borrow (g s1 s2 d : Reg) : Statement (.borrow g s1 s2 d) := fun _ => decodeOp_packFields _ _ _ rfl

theorem carry (g s1 s2 d : Reg) : Statement (.carry g s1 s2 d) := fun _ => decodeOp_packFields _ _ _ rfl

theorem curcycles (g d : Reg) : Statement (.curcycles g d) := fun _ => decodeOp_packFields _ _ _ rfl

theorem cycles (g d : Reg) : Statement (.cycles g d) := fun _ => decodeOp_packFields _ _ _ rfl

theorem dcb (g : Reg) (m : Int) (s1 : Reg) : Statement (.dcb g m s1) := fun h =>
  (decodeOp_packFields _ _ _ rfl).trans (congrArg (fun x => Except.ok (Instr.dcb g x s1))
    (signedField_modField (-256) 252 4 m (by omega) (by omega) (by omega) h))

theorem dinvalid (g : Reg) (m : Int) (s1 : Reg) : Statement (.dinvalid g m s1) := fun h =>
  (decodeOp_packFields _ _ _ rfl).trans (congrArg (fun x => Except.ok (Instr.dinvalid g x s1))
    (signedField_modField (-256) 252 4 m (by omega) (by omega) (by omega) h))

theorem dspiabs (g s1 d : Reg) : Statement (.dspiabs g s1 d) := fun _ => decodeOp_packFields _ _ _ rfl

theorem dspiadd (g s1 s2 d : Reg) : Statement (.dspiadd g s1 s2 d) := fun _ => decodeOp_packFields _ _ _ rfl

theorem dspidualabs (g s1 d : Reg) : Statement (.dspidualabs g s1 d) := fun _ => decodeOp_packFields _ _ _ rfl

theorem dspidualadd (g s1 s2 d : Reg) : Statement (.dspidualadd g s1 s2 d) := fun _ => decodeOp_packFields _ _ _ rfl

theorem dspidualmul (g s1 s2 d : Reg) : Statement (.dspidualmul g s1 s2 d) := fun _ => decodeOp_packFields _ _ _ rfl

theorem dspidualsub (g s1 s2 d : Reg) : Statement (.dspidualsub g s1 s2 d) := fun _ => decodeOp_packFields _ _ _ rfl

theorem dspimul (g s1 s2 d : Reg) : Statement (.dspimul g s1 s2 d) := fun _ => decodeOp_packFields _ _ _ rfl

theorem dspisub (g s1 s2 d : Reg) : Statement (.dspisub g s1 s2 d) := fun _ => decodeOp_packFields _ _ _ rfl

theorem dspuadd (g s1 s2 d : Reg) : Statement (.dspuadd g s1 s2 d) := fun _ => decodeOp_packFields _ _ _ rfl

theorem dspumul (g s1 s2 d : Reg) : Statement (.dspumul g s1 s2 d) := fun _ => decodeOp_packFields _ _ _ rfl

theorem dspuquadaddui (g s1 s2 d : Reg) : Statement (.dspuquadaddui g s1 s2 d) := fun _ => decodeOp_packFields _ _ _ rfl

theorem dspusub (g s1 s2 d : Reg) : Statement (.dspusub g s1 s2 d) := fun _ => decodeOp_packFields _ _ _ rfl

theorem dualasr (g s1 s2 d : Reg) : Statement (.dualasr g s1 s2 d) := fun _ => decodeOp_packFields _ _ _ rfl

theorem dualiclipi (g s1 s2 d : Reg) : Statement (.dualiclipi g s1 s2 d) := fun _ => decodeOp_packFields _ _ _ rfl

theorem dualuclipi (g s1 s2 d : Reg) : Statement (.dualuclipi g s1 s2 d) := fun _ => decodeOp_packFields _ _ _ rfl

theorem fabsval (g s1 d : Reg) : Statement (.fabsval g s1 d) := fun _ => decodeOp_packFields _ _ _ rfl

theorem fabsvalflags (g s1 d : Reg) : Statement (.fabsvalflags g s1 d) := fun _ => decodeOp_packFields _ _ _ rfl

theorem fadd (g s1 s2 d : Reg) : Statement (.fadd g s1 s2 d) := fun _ => decodeOp_packFields _ _ _ rfl

theorem faddflags (g s1 s2 d : Reg) : Statement (.faddflags g s1 s2 d) := fun _ => decodeOp_packFields _ _ _ rfl

theorem fdiv (g s1 s2 d : Reg) : Statement (.fdiv g s1 s2 d) := fun _ => decodeOp_packFields _ _ _ rfl

theorem fdivflags (g s1 s2 d : Reg) : Statement (.fdivflags g s1 s2 d) := fun _ => decodeOp_packFields _ _ _ rfl

theorem feql (g s1 s2 d : Reg) : Statement (.feql g s1 s2 d) := fun _ => decodeOp_packFields _ _ _ rfl

theorem feqlflags (g s1 s2 d : Reg) : Statement (.feqlflags g s1 s2 d) := fun _ => decodeOp_packFields _ _ _ rfl

theorem fgeq (g s1 s2 d : Reg) : Statement (.fgeq g s1 s2 d) := fun _ => decodeOp_packFields _ _ _ rfl

theorem fgeqflags (g s1 s2 d : Reg) : Statement (.fgeqflags g s1 s2 d) := fun _ => decodeOp_packFields _ _ _ rfl

theorem fgtr (g s1 s2 d : Reg) : Statement (.fgtr g s1 s2 d) := fun _ => decodeOp_packFields _ _ _ rfl

theorem fgtrflags (g s1 s2 d : Reg) : Statement (.fgtrflags g s1 s2 d) := fun _ => decodeOp_packFields _ _ _ rfl

theorem fleq (g s1 s2 d : Reg) : Statement (.fleq g s1 s2 d) := fun _ => decodeOp_packFields _ _ _ rfl

theorem fleqflags (g s1 s2 d : Reg) : Statement (.fleqflags g s1 s2 d) := fun _ => decodeOp_packFields _ _ _ rfl

theorem fles (g s1 s2 d : Reg) : Statement (.fles g s1 s2 d) := fun _ => decodeOp_packFields _ _ _ rfl

theorem flesflags (g s1 s2 d : Reg) : Statement (.flesflags g s1 s2 d) := fun _ => decodeOp_packFields _ _ _ rfl

theorem fmul (g s1 s2 d : Reg) : Statement (.fmul g s1 s2 d) := fun _ => decodeOp_packFields _ _ _ rfl

theorem fmulflags (g s1 s2 d : Reg) : Statement (.fmulflags g s1 s2 d) := fun _ => decodeOp_packFields _ _ _ rfl

theorem fneq (g s1 s2 d : Reg) : Statement (.fneq g s1 s2 d) := fun _ => decodeOp_packFields _ _ _ rfl

theorem fneqflags (g s1 s2 d : Reg) : Statement (.fneqflags g s1 s2 d) := fun _ => decodeOp_packFields _ _ _ rfl

theorem fsign (g s1 d : Reg) : Statement (.fsign g s1 d) := fun _ => decodeOp_packFields _ _ _ rfl

theorem fsignflags (g s1 d : Reg) : Statement (.fsignflags g s1 d) := fun _ => decodeOp_packFields _ _ _ rfl

theorem fsqrt (g s1 d : Reg) : Statement (.fsqrt g s1 d) := fun _ => decodeOp_packFields _ _ _ rfl

theorem fsqrtflags (g s1 d : Reg) : Statement (.fsqrtflags g s1 d) := fun _ => decodeOp_packFields _ _ _ rfl

theorem fsub (g s1 s2 d : Reg) : Statement (.fsub g s1 s2 d) := fun _ => decodeOp_packFields _ _ _ rfl

theorem fsubflags (g s1 s2 d : Reg) : Statement (.fsubflags g s1 s2 d) := fun _ => decodeOp_packFields _ _ _ rfl

theorem funshift1 (g s1 s2 d : Reg) : Statement (.funshift1 g s1 s2 d) := fun _ => decodeOp_packFields _ _ _ rfl

theorem funshift2 (g s1 s2 d : Reg) : Statement (.funshift2 g s1 s2 d) := fun _ => decodeOp_packFields _ _ _ rfl

theorem funshift3 (g s1 s2 d : Reg) : Statement (.funshift3 g s1 s2 d) := fun _ => decodeOp_packFields _ _ _ rfl

theorem hDspiabs (g s1 s2 d : Reg) : Statement (.hDspiabs g s1 s2 d) := fun _ => decodeOp_packFields _ _ _ rfl

theorem hDspidualabs (g s1 s2 d : Reg) : Statement (.hDspidualabs g s1 s2 d) := fun _ => decodeOp_packFields _ _ _ rfl

theorem hIabs (g s1 s2 d : Reg) : Statement (.hIabs g s1 s2 d) := fun _ => decodeOp_packFields _ _ _ rfl

theorem hSt16d (g : Reg) (m : Int) (s1 s2 : Reg) : Statement (.hSt16d g m s1 s2) := fun h =>
  (decodeOp_packFields _ _ _ rfl).trans (congrArg (fun x => Except.ok (Instr.hSt16d g x s1 s2))
    (signedField_modField (-128) 126 2 m (by omega) (by omega) (by omega) h))

theorem hSt32d (g : Reg) (m : Int) (s1 s2 : Reg) : Statement (.hSt32d g m s1 s2) := fun h =>
  (decodeOp_packFields _ _ _ rfl).trans (congrArg (fun x => Except.ok (Instr.hSt32d g x s1 s2))
    (signedField_modField (-256) 252 4 m (by omega) (by omega) (by omega) h))

theorem hSt8d (g : Reg) (m : Int) (s1 s2 : Reg) : Statement (.hSt8d g m s1 s2) := fun h =>
  (decodeOp_packFields _ _ _ rfl).trans (congrArg (fun x => Except.ok (Instr.hSt8d g x s1 s2))
    (signedField_modField (-64) 63 1 m (by omega) (by omega) (by omega) h))

theorem hicycles (g d : Reg) : Statement (.hicycles g d) := fun _ => decodeOp_packFields _ _ _ rfl

theorem iabs (g s1 d : Reg) : Statement (.iabs g s1 d) := fun _ => decodeOp_packFields _ _ _ rfl

theorem iadd (g s1 s2 d : Reg) : Statement (.iadd g s1 s2 d) := fun _ => decodeOp_packFields _ _ _ rfl

theorem iaddi (g : Reg) (m : Int) (s1 d : Reg) : Statement (.iaddi g m s1 d) := fun h =>
  (decodeOp_packFields _ _ _ rfl).trans (congrArg (fun x => Except.ok (Instr.iaddi g x s1 d)) (unsignedField_modField 127 m (by omega) h))

theorem iavgonep (g s1 s2 d : Reg) : Statement (.iavgonep g s1 s2 d) := fun _ => decodeOp_packFields _ _ _ rfl

theorem ibytesel (g s1 s2 d : Reg) : Statement (.ibytesel g s1 s2 d) := fun _ => decodeOp_packFields _ _ _ rfl

theorem iclipi (g s1 s2 d : Reg) : Statement (.iclipi g s1 s2 d) := fun _ => decodeOp_packFields _ _ _ rfl

theorem iclr (g : Reg) : Statement (.iclr g) := fun _ => decodeOp_packFields _ _ _ rfl

theorem ident (g s1 d : Reg) : Statement (.ident g s1 d) := fun _ => decodeOp_packFields _ _ _ rfl

theorem ieql (g s1 s2 d : Reg) : Statement (.ieql g s1 s2 d) := fun _ => decodeOp_packFields _ _ _ rfl

theorem ieqli (g : Reg) (m : Int) (s1 d : Reg) : Statement (.ieqli g m s1 d) := fun h =>
  (decodeOp_packFields _ _ _ rfl).trans (congrArg (fun x => Except.ok (Instr.ieqli g x s1 d))
    (signedField_modField (-64) 63 1 m (by omega) (by omega) (by omega) h))

theorem ifir16 (g s1 s2 d : Reg) : Statement (.ifir16 g s1 s2 d) := fun _ => decodeOp_packFields _ _ _ rfl

theorem ifir8ii (g s1 s2 d : Reg) : Statement (.ifir8ii g s1 s2 d) := fun _ => decodeOp_packFields _ _ _ rfl

theorem ifir8ui (g s1 s2 d : Reg) : Statement (.ifir8ui g s1 s2 d) := fun _ => decodeOp_packFields _ _ _ rfl

theorem ifixieee (g s1 d : Reg) : Statement (.ifixieee g s1 d) := fun _ => decodeOp_packFields _ _ _ rfl

theorem ifixieeeflags (g s1 d : Reg) : Statement (.ifixieeeflags g s1 d) := fun _ => decodeOp_packFields _ _ _ rfl

theorem ifixrz (g s1 d : Reg) : Statement (.ifixrz g s1 d) := fun _ => decodeOp_packFields _ _ _ rfl

theorem ifixrzflags (g s1 d : Reg) : Statement (.ifixrzflags g s1 d) := fun _ => decodeOp_packFields _ _ _ rfl

theorem iflip (g s1 s2 d : Reg) : Statement (.iflip g s1 s2 d) := fun _ => decodeOp_packFields _ _ _ rfl

theorem ifloat (g s1 d : Reg) : Statement (.ifloat g s1 d) := fun _ => decodeOp_packFields _ _ _ rfl

theorem ifloatflags (g s1 d : Reg) : Statement (.ifloatflags g s1 d) := fun _ => decodeOp_packFields _ _ _ rfl

theorem ifloatrz (g s1 d : Reg) : Statement (.ifloatrz g s1 d) := fun _ => decodeOp_packFields _ _ _ rfl

theorem ifloatrzflags (g s1 d : Reg) : Statement (.ifloatrzflags g s1 d) := fun _ => decodeOp_packFields _ _ _ rfl

theorem igeq (g s1 s2 d : Reg) : Statement (.igeq g s1 s2 d) := fun _ => decodeOp_packFields _ _ _ rfl

theorem igeqi (g : Reg) (m : Int) (s1 d : Reg) : Statement (.igeqi g m s1 d) := fun h =>
  (decodeOp_packFields _ _ _ rfl).trans (congrArg (fun x => Except.ok (Instr.igeqi g x s1 d))
    (signedField_modField (-64) 63 1 m (by omega) (by omega) (by omega) h))

theorem igtr (g s1 s2 d : Reg) : Statement (.igtr g s1 s2 d) := fun _ => decodeOp_packFields _ _ _ rfl

theorem igtri (g : Reg) (m : Int) (s1 d : Reg) : Statement (.igtri g m s1 d) := fun h =>
  (decodeOp_packFields _ _ _ rfl).trans (congrArg (fun x => Except.ok (Instr.igtri g x s1 d))
    (signedField_modField (-64) 63 1 m (by omega) (by omega) (by omega) h))

theorem iimm (m : Int) (d : Reg) : Statement (.iimm m d) := fun h =>
  (decodeOp_packImm _ _ _ _ rfl).trans (congr_two (fun v r => Except.ok (Instr.iimm v r))
    ((congrArg (fun x => BitVec.toInt x) (packImm_imm ..)).trans (toInt_ofInt_imm m h)) (packImm_immReg ..))

theorem ijmpf (g s1 s2 : Reg) : Statement (.ijmpf g s1 s2) := fun _ => decodeOp_packFields _ _ _ rfl

theorem ijmpi (g : Reg) (a : Word) : Statement (.ijmpi g a) := fun _ =>
  (decodeOp_packImm _ _ _ _ rfl).trans (congr_two (fun r v => Except.ok (Instr.ijmpi r v)) (packImm_immReg ..) (packImm_imm ..))

theorem ijmpt (g s1 s2 : Reg) : Statement (.ijmpt g s1 s2) := fun _ => decodeOp_packFields _ _ _ rfl

theorem ild16 (g s1 d : Reg) : Statement (.ild16 g s1 d) := fun _ => decodeOp_packFields _ _ _ rfl

theorem ild16d (g : Reg) (m : Int) (s1 d : Reg) : Statement (.ild16d g m s1 d) := fun h =>
  (decodeOp_packFields _ _ _ rfl).trans (congrArg (fun x => Except.ok (Instr.ild16d g x s1 d))
    (signedField_modField (-128) 126 2 m (by omega) (by omega) (by omega) h))

theorem ild16r (g s1 s2 d : Reg) : Statement (.ild16r g s1 s2 d) := fun _ => decodeOp_packFields _ _ _ rfl

theorem ild16x (g s1 s2 d : Reg) : Statement (.ild16x g s1 s2 d) := fun _ => decodeOp_packFields _ _ _ rfl

theorem ild8 (g s1 d : Reg) : Statement (.ild8 g s1 d) := fun _ => decodeOp_packFields _ _ _ rfl

theorem ild8d (g : Reg) (m : Int) (s1 d : Reg) : Statement (.ild8d g m s1 d) := fun h =>
  (decodeOp_packFields _ _ _ rfl).trans (congrArg (fun x => Except.ok (Instr.ild8d g x s1 d))
    (signedField_modField (-64) 63 1 m (by omega) (by omega) (by omega) h))

theorem ild8r (g s1 s2 d : Reg) : Statement (.ild8r g s1 s2 d) := fun _ => decodeOp_packFields _ _ _ rfl

theorem ileq (g s1 s2 d : Reg) : Statement (.ileq g s1 s2 d) := fun _ => decodeOp_packFields _ _ _ rfl

theorem ileqi (g : Reg) (m : Int) (s1 d : Reg) : Statement (.ileqi g m s1 d) := fun h =>
  (decodeOp_packFields _ _ _ rfl).trans (congrArg (fun x => Except.ok (Instr.ileqi g x s1 d))
    (signedField_modField (-64) 63 1 m (by omega) (by omega) (by omega) h))

theorem iles (g s1 s2 d : Reg) : Statement (.iles g s1 s2 d) := fun _ => decodeOp_packFields _ _ _ rfl

theorem ilesi (g : Reg) (m : Int) (s1 d : Reg) : Statement (.ilesi g m s1 d) := fun h =>
  (decodeOp_packFields _ _ _ rfl).trans (congrArg (fun x => Except.ok (Instr.ilesi g x s1 d))
    (signedField_modField (-64) 63 1 m (by omega) (by omega) (by omega) h))

theorem imax (g s1 s2 d : Reg) : Statement (.imax g s1 s2 d) := fun _ => decodeOp_packFields _ _ _ rfl

theorem imin (g s1 s2 d : Reg) : Statement (.imin g s1 s2 d) := fun _ => decodeOp_packFields _ _ _ rfl

theorem imul (g s1 s2 d : Reg) : Statement (.imul g s1 s2 d) := fun _ => decodeOp_packFields _ _ _ rfl

theorem imulm (g s1 s2 d : Reg) : Statement (.imulm g s1 s2 d) := fun _ => decodeOp_packFields _ _ _ rfl

theorem ineg (g s1 d : Reg) : Statement (.ineg g s1 d) := fun _ => decodeOp_packFields _ _ _ rfl

theorem ineq (g s1 s2 d : Reg) : Statement (.ineq g s1 s2 d) := fun _ => decodeOp_packFields _ _ _ rfl

theorem ineqi (g : Reg) (m : Int) (s1 d : Reg) : Statement (.ineqi g m s1 d) := fun h =>
  (decodeOp_packFields _ _ _ rfl).trans (congrArg (fun x => Except.ok (Instr.ineqi g x s1 d))
    (signedField_modField (-64) 63 1 m (by omega) (by omega) (by omega) h))

theorem inonzero (g s1 s2 d : Reg) : Statement (.inonzero g s1 s2 d) := fun _ => decodeOp_packFields _ _ _ rfl

theorem isub (g s1 s2 d : Reg) : Statement (.isub g s1 s2 d) := fun _ => decodeOp_packFields _ _ _ rfl

theorem isubi (g : Reg) (m : Int) (s1 d : Reg) : Statement (.isubi g m s1 d) := fun h =>
  (decodeOp_packFields _ _ _ rfl).trans (congrArg (fun x => Except.ok (Instr.isubi g x s1 d)) (unsignedField_modField 127 m (by omega) h))

theorem izero (g s1 s2 d : Reg) : Statement (.izero g s1 s2 d) := fun _ => decodeOp_packFields _ _ _ rfl

theorem jmpf (g s1 s2 : Reg) : Statement (.jmpf g s1 s2) := fun _ => decodeOp_packFields _ _ _ rfl

theorem jmpi (g : Reg) (a : Word) : Statement (.jmpi g a) := fun _ =>
  (decodeOp_packImm _ _ _ _ rfl).trans (congr_two (fun r v => Except.ok (Instr.jmpi r v)) (packImm_immReg ..) (packImm_imm ..))

theorem jmpt (g s1 s2 : Reg) : Statement (.jmpt g s1 s2) := fun _ => decodeOp_packFields _ _ _ rfl

theorem ld32 (g s1 d : Reg) : Statement (.ld32 g s1 d) := fun _ => decodeOp_packFields _ _ _ rfl

theorem ld32d (g : Reg) (m : Int) (s1 d : Reg) : Statement (.ld32d g m s1 d) := fun h =>
  (decodeOp_packFields _ _ _ rfl).trans (congrArg (fun x => Except.ok (Instr.ld32d g x s1 d))
    (signedField_modField (-256) 252 4 m (by omega) (by omega) (by omega) h))

theorem ld32r (g s1 s2 d : Reg) : Statement (.ld32r g s1 s2 d) := fun _ => decodeOp_packFields _ _ _ rfl

theorem ld32x (g s1 s2 d : Reg) : Statement (.ld32x g s1 s2 d) := fun _ => decodeOp_packFields _ _ _ rfl

theorem lsl (g s1 s2 d : Reg) : Statement (.lsl g s1 s2 d) := fun _ => decodeOp_packFields _ _ _ rfl

theorem lsli (g : Reg) (m : Int) (s1 d : Reg) : Statement (.lsli g m s1 d) := fun h =>
  (decodeOp_packFields _ _ _ rfl).trans (congrArg (fun x => Except.ok (Instr.lsli g x s1 d)) (unsignedField_modField 31 m (by omega) h))

theorem lsr (g s1 s2 d : Reg) : Statement (.lsr g s1 s2 d) := fun _ => decodeOp_packFields _ _ _ rfl

theorem lsri (g : Reg) (m : Int) (s1 d : Reg) : Statement (.lsri g m s1 d) := fun h =>
  (decodeOp_packFields _ _ _ rfl).trans (congrArg (fun x => Except.ok (Instr.lsri g x s1 d)) (unsignedField_modField 31 m (by omega) h))

theorem mergedual16lsb (g s1 s2 d : Reg) : Statement (.mergedual16lsb g s1 s2 d) := fun _ => decodeOp_packFields _ _ _ rfl

theorem mergelsb (g s1 s2 d : Reg) : Statement (.mergelsb g s1 s2 d) := fun _ => decodeOp_packFields _ _ _ rfl

theorem mergemsb (g s1 s2 d : Reg) : Statement (.mergemsb g s1 s2 d) := fun _ => decodeOp_packFields _ _ _ rfl

theorem nop : Statement .nop := fun _ => decodeOp_packFields _ _ _ rfl

theorem pack16lsb (g s1 s2 d : Reg) : Statement (.pack16lsb g s1 s2 d) := fun _ => decodeOp_packFields _ _ _ rfl

theorem pack16msb (g s1 s2 d : Reg) : Statement (.pack16msb g s1 s2 d) := fun _ => decodeOp_packFields _ _ _ rfl

theorem packbytes (g s1 s2 d : Reg) : Statement (.packbytes g s1 s2 d) := fun _ => decodeOp_packFields _ _ _ rfl

theorem pref (g s1 : Reg) : Statement (.pref g s1) := fun _ => decodeOp_packFields _ _ _ rfl

theorem pref16x (g s1 s2 : Reg) : Statement (.pref16x g s1 s2) := fun _ => decodeOp_packFields _ _ _ rfl

theorem pref32x (g s1 s2 : Reg) : Statement (.pref32x g s1 s2) := fun _ => decodeOp_packFields _ _ _ rfl

theorem prefd (g : Reg) (m : Int) (s1 : Reg) : Statement (.prefd g m s1) := fun h =>
  (decodeOp_packFields _ _ _ rfl).trans (congrArg (fun x => Except.ok (Instr.prefd g x s1))
    (signedField_modField (-256) 252 4 m (by omega) (by omega) (by omega) h))

theorem prefr (g s1 s2 : Reg) : Statement (.prefr g s1 s2) := fun _ => decodeOp_packFields _ _ _ rfl

theorem quadavg (g s1 s2 d : Reg) : Statement (.quadavg g s1 s2 d) := fun _ => decodeOp_packFields _ _ _ rfl

theorem quadumax (g s1 s2 d : Reg) : Statement (.quadumax g s1 s2 d) := fun _ => decodeOp_packFields _ _ _ rfl

theorem quadumin (g s1 s2 d : Reg) : Statement (.quadumin g s1 s2 d) := fun _ => decodeOp_packFields _ _ _ rfl

theorem quadumulmsb (g s1 s2 d : Reg) : Statement (.quadumulmsb g s1 s2 d) := fun _ => decodeOp_packFields _ _ _ rfl

theorem rdstatus (g : Reg) (m : Int) (s1 d : Reg) : Statement (.rdstatus g m s1 d) := fun h =>
  (decodeOp_packFields _ _ _ rfl).trans (congrArg (fun x => Except.ok (Instr.rdstatus g x s1 d))
    (signedField_modField (-256) 252 4 m (by omega) (by omega) (by omega) h))

theorem rdtag (g : Reg) (m : Int) (s1 d : Reg) : Statement (.rdtag g m s1 d) := fun h =>
  (decodeOp_packFields _ _ _ rfl).trans (congrArg (fun x => Except.ok (Instr.rdtag g x s1 d))
    (signedField_modField (-256) 252 4 m (by omega) (by omega) (by omega) h))

theorem readdpc (g d : Reg) : Statement (.readdpc g d) := fun _ => decodeOp_packFields _ _ _ rfl

theorem readpcsw (g d : Reg) : Statement (.readpcsw g d) := fun _ => decodeOp_packFields _ _ _ rfl

theorem readspc (g d : Reg) : Statement (.readspc g d) := fun _ => decodeOp_packFields _ _ _ rfl

theorem rol (g s1 s2 d : Reg) : Statement (.rol g s1 s2 d) := fun _ => decodeOp_packFields _ _ _ rfl

theorem roli (g : Reg) (m : Int) (s1 d : Reg) : Statement (.roli g m s1 d) := fun h =>
  (decodeOp_packFields _ _ _ rfl).trans (congrArg (fun x => Except.ok (Instr.roli g x s1 d)) (unsignedField_modField 31 m (by omega) h))

theorem sex16 (g s1 d : Reg) : Statement (.sex16 g s1 d) := fun _ => decodeOp_packFields _ _ _ rfl

theorem sex8 (g s1 d : Reg) : Statement (.sex8 g s1 d) := fun _ => decodeOp_packFields _ _ _ rfl

theorem st16 (g s1 s2 : Reg) : Statement (.st16 g s1 s2) := fun _ => decodeOp_packFields _ _ _ rfl

theorem st16d (g : Reg) (m : Int) (s1 s2 : Reg) : Statement (.st16d g m s1 s2) := fun h =>
  (decodeOp_packFields _ _ _ rfl).trans (congrArg (fun x => Except.ok (Instr.st16d g x s1 s2))
    (signedField_modField (-128) 126 2 m (by omega) (by omega) (by omega) h))

theorem st32 (g s1 s2 : Reg) : Statement (.st32 g s1 s2) := fun _ => decodeOp_packFields _ _ _ rfl

theorem st32d (g : Reg) (m : Int) (s1 s2 : Reg) : Statement (.st32d g m s1 s2) := fun h =>
  (decodeOp_packFields _ _ _ rfl).trans (congrArg (fun x => Except.ok (Instr.st32d g x s1 s2))
    (signedField_modField (-256) 252 4 m (by omega) (by omega) (by omega) h))

theorem st8 (g s1 s2 : Reg) : Statement (.st8 g s1 s2) := fun _ => decodeOp_packFields _ _ _ rfl

theorem st8d (g : Reg) (m : Int) (s1 s2 : Reg) : Statement (.st8d g m s1 s2) := fun h =>
  (decodeOp_packFields _ _ _ rfl).trans (congrArg (fun x => Except.ok (Instr.st8d g x s1 s2))
    (signedField_modField (-64) 63 1 m (by omega) (by omega) (by omega) h))

theorem ubytesel (g s1 s2 d : Reg) : Statement (.ubytesel g s1 s2 d) := fun _ => decodeOp_packFields _ _ _ rfl

theorem uclipi (g s1 s2 d : Reg) : Statement (.uclipi g s1 s2 d) := fun _ => decodeOp_packFields _ _ _ rfl

theorem uclipu (g s1 s2 d : Reg) : Statement (.uclipu g s1 s2 d) := fun _ => decodeOp_packFields _ _ _ rfl

theorem ueql (g s1 s2 d : Reg) : Statement (.ueql g s1 s2 d) := fun _ => decodeOp_packFields _ _ _ rfl

theorem ueqli (g : Reg) (m : Int) (s1 d : Reg) : Statement (.ueqli g m s1 d) := fun h =>
  (decodeOp_packFields _ _ _ rfl).trans (congrArg (fun x => Except.ok (Instr.ueqli g x s1 d)) (unsignedField_modField 127 m (by omega) h))

theorem ufir16 (g s1 s2 d : Reg) : Statement (.ufir16 g s1 s2 d) := fun _ => decodeOp_packFields _ _ _ rfl

theorem ufir8uu (g s1 s2 d : Reg) : Statement (.ufir8uu g s1 s2 d) := fun _ => decodeOp_packFields _ _ _ rfl

theorem ufixieee (g s1 d : Reg) : Statement (.ufixieee g s1 d) := fun _ => decodeOp_packFields _ _ _ rfl

theorem ufixieeeflags (g s1 d : Reg) : Statement (.ufixieeeflags g s1 d) := fun _ => decodeOp_packFields _ _ _ rfl

theorem ufixrz (g s1 d : Reg) : Statement (.ufixrz g s1 d) := fun _ => decodeOp_packFields _ _ _ rfl

theorem ufixrzflags (g s1 d : Reg) : Statement (.ufixrzflags g s1 d) := fun _ => decodeOp_packFields _ _ _ rfl

theorem ufloat (g s1 d : Reg) : Statement (.ufloat g s1 d) := fun _ => decodeOp_packFields _ _ _ rfl

theorem ufloatflags (g s1 d : Reg) : Statement (.ufloatflags g s1 d) := fun _ => decodeOp_packFields _ _ _ rfl

theorem ufloatrz (g s1 d : Reg) : Statement (.ufloatrz g s1 d) := fun _ => decodeOp_packFields _ _ _ rfl

theorem ufloatrzflags (g s1 d : Reg) : Statement (.ufloatrzflags g s1 d) := fun _ => decodeOp_packFields _ _ _ rfl

theorem ugeq (g s1 s2 d : Reg) : Statement (.ugeq g s1 s2 d) := fun _ => decodeOp_packFields _ _ _ rfl

theorem ugeqi (g : Reg) (m : Int) (s1 d : Reg) : Statement (.ugeqi g m s1 d) := fun h =>
  (decodeOp_packFields _ _ _ rfl).trans (congrArg (fun x => Except.ok (Instr.ugeqi g x s1 d)) (unsignedField_modField 127 m (by omega) h))

theorem ugtr (g s1 s2 d : Reg) : Statement (.ugtr g s1 s2 d) := fun _ => decodeOp_packFields _ _ _ rfl

theorem ugtri (g : Reg) (m : Int) (s1 d : Reg) : Statement (.ugtri g m s1 d) := fun h =>
  (decodeOp_packFields _ _ _ rfl).trans (congrArg (fun x => Except.ok (Instr.ugtri g x s1 d)) (unsignedField_modField 127 m (by omega) h))

theorem uimm (m : Int) (d : Reg) : Statement (.uimm m d) := fun h =>
  (decodeOp_packImm _ _ _ _ rfl).trans (congr_two (fun v r => Except.ok (Instr.uimm v r))
    ((congrArg (fun x => (BitVec.toNat x : Int)) (packImm_imm ..)).trans (toNat_ofInt_imm m h)) (packImm_immReg ..))

theorem uld16 (g s1 d : Reg) : Statement (.uld16 g s1 d) := fun _ => decodeOp_packFields _ _ _ rfl

theorem uld16d (g : Reg) (m : Int) (s1 d : Reg) : Statement (.uld16d g m s1 d) := fun h =>
  (decodeOp_packFields _ _ _ rfl).trans (congrArg (fun x => Except.ok (Instr.uld16d g x s1 d))
    (signedField_modField (-128) 126 2 m (by omega) (by omega) (by omega) h))

theorem uld16r (g s1 s2 d : Reg) : Statement (.uld16r g s1 s2 d) := fun _ => decodeOp_packFields _ _ _ rfl

theorem uld16x (g s1 s2 d : Reg) : Statement (.uld16x g s1 s2 d) := fun _ => decodeOp_packFields _ _ _ rfl

theorem uld8 (g s1 d : Reg) : Statement (.uld8 g s1 d) := fun _ => decodeOp_packFields _ _ _ rfl

theorem uld8d (g : Reg) (m : Int) (s1 d : Reg) : Statement (.uld8d g m s1 d) := fun h =>
  (decodeOp_packFields _ _ _ rfl).trans (congrArg (fun x => Except.ok (Instr.uld8d g x s1 d))
    (signedField_modField (-64) 63 1 m (by omega) (by omega) (by omega) h))

theorem uld8r (g s1 s2 d : Reg) : Statement (.uld8r g s1 s2 d) := fun _ => decodeOp_packFields _ _ _ rfl

theorem uleq (g s1 s2 d : Reg) : Statement (.uleq g s1 s2 d) := fun _ => decodeOp_packFields _ _ _ rfl

theorem uleqi (g : Reg) (m : Int) (s1 d : Reg) : Statement (.uleqi g m s1 d) := fun h =>
  (decodeOp_packFields _ _ _ rfl).trans (congrArg (fun x => Except.ok (Instr.uleqi g x s1 d)) (unsignedField_modField 127 m (by omega) h))

theorem ules (g s1 s2 d : Reg) : Statement (.ules g s1 s2 d) := fun _ => decodeOp_packFields _ _ _ rfl

theorem ulesi (g : Reg) (m : Int) (s1 d : Reg) : Statement (.ulesi g m s1 d) := fun h =>
  (decodeOp_packFields _ _ _ rfl).trans (congrArg (fun x => Except.ok (Instr.ulesi g x s1 d)) (unsignedField_modField 127 m (by omega) h))

theorem ume8ii (g s1 s2 d : Reg) : Statement (.ume8ii g s1 s2 d) := fun _ => decodeOp_packFields _ _ _ rfl

theorem ume8uu (g s1 s2 d : Reg) : Statement (.ume8uu g s1 s2 d) := fun _ => decodeOp_packFields _ _ _ rfl

theorem umin (g s1 s2 d : Reg) : Statement (.umin g s1 s2 d) := fun _ => decodeOp_packFields _ _ _ rfl

theorem umul (g s1 s2 d : Reg) : Statement (.umul g s1 s2 d) := fun _ => decodeOp_packFields _ _ _ rfl

theorem umulm (g s1 s2 d : Reg) : Statement (.umulm g s1 s2 d) := fun _ => decodeOp_packFields _ _ _ rfl

theorem uneq (g s1 s2 d : Reg) : Statement (.uneq g s1 s2 d) := fun _ => decodeOp_packFields _ _ _ rfl

theorem uneqi (g : Reg) (m : Int) (s1 d : Reg) : Statement (.uneqi g m s1 d) := fun h =>
  (decodeOp_packFields _ _ _ rfl).trans (congrArg (fun x => Except.ok (Instr.uneqi g x s1 d)) (unsignedField_modField 127 m (by omega) h))

theorem writedpc (g s1 : Reg) : Statement (.writedpc g s1) := fun _ => decodeOp_packFields _ _ _ rfl

theorem writepcsw (g s1 s2 : Reg) : Statement (.writepcsw g s1 s2) := fun _ => decodeOp_packFields _ _ _ rfl

theorem writespc (g s1 : Reg) : Statement (.writespc g s1) := fun _ => decodeOp_packFields _ _ _ rfl

theorem zex16 (g s1 d : Reg) : Statement (.zex16 g s1 d) := fun _ => decodeOp_packFields _ _ _ rfl

theorem zex8 (g s1 d : Reg) : Statement (.zex8 g s1 d) := fun _ => decodeOp_packFields _ _ _ rfl

end Sys2Proof.Laws.RoundTrip
end

