-- ==== Sys2Proof/Tests/Slice0.lean ====
section
/-! SUPPORT. The model's own tests, and for each statement with hypotheses a state and operands that meet them. -/
namespace Sys2Proof.Tests
open Sys2Proof.Machine
set_option maxRecDepth 100000

/-! ### Helpers -/

/-- A running machine with r2 = `a`, r3 = `b`, the PCSW word `p` and, from 0x1000 on, the bytes `bytes`. -/
def small (a b p : Word) (bytes : List Byte) : State :=
  { (State.reset.setReg 2 a).setReg 3 b with
    pcsw := p
    mem := Mem.writeList [] 0x1000 bytes
    run := .running }

/-- The value that an operation sends to r4 and the PCSW bits it sends with it. -/
def sent (o : Out) : Option (Word × Word) :=
  match o with
  | .next t =>
    match t.results with
    | [r] => if r.dest = 4 then some (r.value, dueFlags (t.flagUpdates.map fun f => { f with left := 1 })) else none
    | _ => none
  | _ => none

/-- The operation `i` on r2 = `a`, r3 = `b` sends `v` to r4, with the flags `f`, in IEEE mode `mode`. -/
def gives (i : Instr) (a b v : Word) (f : Word := 0) (mode : Word := 0) : Bool :=
  sent (exec i (small a b (0x800 ||| mode <<< 7) [])) == some (v, f)

/-- Eight bytes in memory. -/
def eight : List Byte := [0x01, 0x23, 0x45, 0x67, 0x89, 0xAB, 0xCD, 0xEF]

/-- PCSW with BSX as given. -/
def order (little : Bool) : Word := if little then 0xA00 else 0x800

/-- The load `i` on r2 = `a`, r3 = `b` over the eight bytes sends `v` to r4 and no flag. -/
def loads (i : Instr) (a b : Word) (little : Bool) (v : Word) : Bool :=
  sent (exec i (small a b (order little) eight)) == some (v, 0)

/-- The state that an operation leaves. -/
def after (o : Out) : State :=
  match o with
  | .next t => t
  | _ => State.reset

/-- The store `i` on r2 = `a`, r3 = `b` makes the eight bytes, as one number, `v`, and sets MSE where `mse`. -/
def stores (i : Instr) (a b : Word) (little : Bool) (v : BitVec 64) (mse : Bool) : Bool :=
  match exec i (small a b (order little) eight) with
  | .next t =>
    ((List.range 8).foldl (fun (w : BitVec 64) k => w <<< 8 ||| (t.readByte (0x1000 + BitVec.ofNat 32 k)).setWidth 64) 0) == v
      && (t.flagUpdates == if mse then [⟨0x8000, 1⟩] else [])
  | _ => false

/-- Every record decodes to the operation beside it. -/
def decodes (rows : List (Nat × Instr)) : Bool := rows.all fun p => decodeTableWord 48 p.1 == some p.2

/-! ### Decoding: one record per operation, written out from the operation codes of R192 and the layout of log 1 -/

theorem test_decode_alloc_to_carry : decodes [
    (0x0800002B45D5, .alloc 69 86),
    (0x03F0002B46D5, .allocd 70 252 86),
    (0x00000AEB47D6, .allocr 71 86 43),
    (0x00000AEB45D7, .allocx 69 86 43),
    (0x000E2AEB4613, .asl 70 86 43 113),
    (0x015E202B470B, .asli 71 21 86 113),
    (0x000E2AEB4512, .asr 69 86 43 113),
    (0x015E202B460A, .asri 70 21 86 113),
    (0x000E2AEB4710, .bitand 71 86 43 113),
    (0x000E2AEB4531, .bitandinv 69 86 43 113),
    (0x000E202B4632, .bitinv 70 86 113),
    (0x000E2AEB4711, .bitor 71 86 43 113),
    (0x000E2AEB4530, .bitxor 69 86 43 113),
    (0x080E2AEB4621, .borrow 70 86 43 113),
    (0x000E2AEB472D, .carry 71 86 43 113)] = true := by decide

theorem test_decode_curcycles_to_dspuquadaddui : decodes [
    (0x000E200045A2, .curcycles 69 113),
    (0x000E2000469A, .cycles 70 113),
    (0x03F0002B47CD, .dcb 71 252 86),
    (0x0400002B45CE, .dinvalid 69 (-256) 86),
    (0x080E202B4641, .dspiabs 70 86 113),
    (0x000E2AEB4742, .dspiadd 71 86 43 113),
    (0x080E202B4548, .dspidualabs 69 86 113),
    (0x000E2AEB4646, .dspidualadd 70 86 43 113),
    (0x000E2AEB475F, .dspidualmul 71 86 43 113),
    (0x000E2AEB4547, .dspidualsub 69 86 43 113),
    (0x000E2AEB468D, .dspimul 70 86 43 113),
    (0x000E2AEB4744, .dspisub 71 86 43 113),
    (0x000E2AEB4543, .dspuadd 69 86 43 113),
    (0x000E2AEB468E, .dspumul 70 86 43 113),
    (0x000E2AEB474E, .dspuquadaddui 71 86 43 113)] = true := by decide

theorem test_decode_dspusub_to_fgtr : decodes [
    (0x000E2AEB4545, .dspusub 69 86 43 113),
    (0x000E2AEB4666, .dualasr 70 86 43 113),
    (0x000E2AEB4752, .dualiclipi 71 86 43 113),
    (0x000E2AEB4553, .dualuclipi 69 86 43 113),
    (0x000E202B4673, .fabsval 70 86 113),
    (0x000E202B4774, .fabsvalflags 71 86 113),
    (0x000E2AEB4516, .fadd 69 86 43 113),
    (0x000E2AEB4670, .faddflags 70 86 43 113),
    (0x000E2AEB476C, .fdiv 71 86 43 113),
    (0x000E2AEB456D, .fdivflags 69 86 43 113),
    (0x000E2AEB4694, .feql 70 86 43 113),
    (0x000E2AEB4795, .feqlflags 71 86 43 113),
    (0x000E2AEB4592, .fgeq 69 86 43 113),
    (0x000E2AEB4693, .fgeqflags 70 86 43 113),
    (0x000E2AEB4790, .fgtr 71 86 43 113)] = true := by decide

theorem test_decode_fgtrflags_to_fsubflags : decodes [
    (0x000E2AEB4591, .fgtrflags 69 86 43 113),
    (0x080E2AEB4692, .fleq 70 86 43 113),
    (0x080E2AEB4793, .fleqflags 71 86 43 113),
    (0x080E2AEB4590, .fles 69 86 43 113),
    (0x080E2AEB4691, .flesflags 70 86 43 113),
    (0x000E2AEB471C, .fmul 71 86 43 113),
    (0x000E2AEB458F, .fmulflags 69 86 43 113),
    (0x000E2AEB4696, .fneq 70 86 43 113),
    (0x000E2AEB4797, .fneqflags 71 86 43 113),
    (0x000E202B4598, .fsign 69 86 113),
    (0x000E202B4699, .fsignflags 70 86 113),
    (0x000E202B476E, .fsqrt 71 86 113),
    (0x000E202B456F, .fsqrtflags 69 86 113),
    (0x000E2AEB4671, .fsub 70 86 43 113),
    (0x000E2AEB4772, .fsubflags 71 86 43 113)] = true := by decide

theorem test_decode_funshift1_to_ibytesel : decodes [
    (0x000E2AEB4563, .funshift1 69 86 43 113),
    (0x000E2AEB4664, .funshift2 70 86 43 113),
    (0x000E2AEB4765, .funshift3 71 86 43 113),
    (0x000E2AEB4541, .hDspiabs 69 86 43 113),
    (0x000E2AEB4648, .hDspidualabs 70 86 43 113),
    (0x000E2AEB472C, .hIabs 71 86 43 113),
    (0x04000AEB451E, .hSt16d 69 (-128) 86 43),
    (0x03F00AEB461F, .hSt32d 70 252 86 43),
    (0x04000AEB471D, .hSt8d 71 (-64) 86 43),
    (0x000E2000459B, .hicycles 69 113),
    (0x080E202B462C, .iabs 70 86 113),
    (0x000E2AEB470C, .iadd 71 86 43 113),
    (0x07FE202B4505, .iaddi 69 127 86 113),
    (0x000E2AEB4619, .iavgonep 70 86 43 113),
    (0x000E2AEB4738, .ibytesel 71 86 43 113)] = true := by decide

theorem test_decode_iclipi_to_ifloatflags : decodes [
    (0x000E2AEB454A, .iclipi 69 86 43 113),
    (0x0000000046B8, .iclr 70),
    (0x080E202B470C, .ident 71 86 113),
    (0x000E2AEB4525, .ieql 69 86 43 113),
    (0x03FE202B4604, .ieqli 70 63 86 113),
    (0x000E2AEB475D, .ifir16 71 86 43 113),
    (0x000E2AEB455C, .ifir8ii 69 86 43 113),
    (0x000E2AEB465B, .ifir8ui 70 86 43 113),
    (0x000E202B4779, .ifixieee 71 86 113),
    (0x000E202B457A, .ifixieeeflags 69 86 113),
    (0x000E202B4615, .ifixrz 70 86 113),
    (0x000E202B4781, .ifixrzflags 71 86 113),
    (0x000E2AEB454D, .iflip 69 86 43 113),
    (0x000E202B4614, .ifloat 70 86 113),
    (0x000E202B4782, .ifloatflags 71 86 113)] = true := by decide

theorem test_decode_ifloatrz_to_ild8 : decodes [
    (0x000E202B4575, .ifloatrz 69 86 113),
    (0x000E202B4676, .ifloatrzflags 70 86 113),
    (0x000E2AEB470E, .igeq 71 86 43 113),
    (0x03FE202B4501, .igeqi 69 63 86 113),
    (0x000E2AEB460F, .igtr 70 86 43 113),
    (0x03FE202B4700, .igtri 71 63 86 113),
    (0x4000000071BF, .iimm (-2147483648) 113),
    (0x00000AEB46B5, .ijmpf 70 86 43),
    (0x40000000C7B3, .ijmpi 71 0x80000001),
    (0x00000AEB45B1, .ijmpt 69 86 43),
    (0x080E202B4606, .ild16 70 86 113),
    (0x03FE202B4706, .ild16d 71 126 86 113),
    (0x000E2AEB45C3, .ild16r 69 86 43 113),
    (0x000E2AEB46C4, .ild16x 70 86 43 113),
    (0x080E202B47C0, .ild8 71 86 113)] = true := by decide

theorem test_decode_ild8d_to_isub : decodes [
    (0x03FE202B45C0, .ild8d 69 63 86 113),
    (0x000E2AEB46C1, .ild8r 70 86 43 113),
    (0x080E2AEB470E, .ileq 71 86 43 113),
    (0x040E202B452A, .ileqi 69 (-64) 86 113),
    (0x080E2AEB460F, .iles 70 86 43 113),
    (0x040E202B4702, .ilesi 71 (-64) 86 113),
    (0x000E2AEB4518, .imax 69 86 43 113),
    (0x000E2AEB4617, .imin 70 86 43 113),
    (0x000E2AEB471B, .imul 71 86 43 113),
    (0x000E2AEB458B, .imulm 69 86 43 113),
    (0x080E202B460D, .ineg 70 86 113),
    (0x000E2AEB4727, .ineq 71 86 43 113),
    (0x03FE202B4503, .ineqi 69 63 86 113),
    (0x000E2AEB462F, .inonzero 70 86 43 113),
    (0x000E2AEB470D, .isub 71 86 43 113)] = true := by decide

theorem test_decode_isubi_to_mergelsb : decodes [
    (0x07FE202B4520, .isubi 69 127 86 113),
    (0x000E2AEB462E, .izero 70 86 43 113),
    (0x00000AEB47B4, .jmpf 71 86 43),
    (0x3FFFFFFF45B2, .jmpi 69 0x7FFFFFFE),
    (0x00000AEB46B0, .jmpt 70 86 43),
    (0x080E202B4707, .ld32 71 86 113),
    (0x040E202B4507, .ld32d 69 (-256) 86 113),
    (0x000E2AEB46C8, .ld32r 70 86 43 113),
    (0x000E2AEB47C9, .ld32x 71 86 43 113),
    (0x080E2AEB4513, .lsl 69 86 43 113),
    (0x09FE202B460B, .lsli 70 31 86 113),
    (0x000E2AEB4760, .lsr 71 86 43 113),
    (0x01FE202B4509, .lsri 69 31 86 113),
    (0x000E2AEB4667, .mergedual16lsb 70 86 43 113),
    (0x000E2AEB4739, .mergelsb 71 86 43 113)] = true := by decide

theorem test_decode_mergemsb_to_rdstatus : decodes [
    (0x000E2AEB453A, .mergemsb 69 86 43 113),
    (0xF80000000000, .nop),
    (0x000E2AEB4735, .pack16lsb 71 86 43 113),
    (0x000E2AEB4536, .pack16msb 69 86 43 113),
    (0x000E2AEB4634, .packbytes 70 86 43 113),
    (0x0800002B47D1, .pref 71 86),
    (0x00000AEB45D3, .pref16x 69 86 43),
    (0x00000AEB46D4, .pref32x 70 86 43),
    (0x03F0002B47D1, .prefd 71 252 86),
    (0x00000AEB45D2, .prefr 69 86 43),
    (0x000E2AEB4649, .quadavg 70 86 43 113),
    (0x000E2AEB4751, .quadumax 71 86 43 113),
    (0x000E2AEB4550, .quadumin 69 86 43 113),
    (0x000E2AEB4659, .quadumulmsb 70 86 43 113),
    (0x03FE202B47CB, .rdstatus 71 252 86 113)] = true := by decide

theorem test_decode_rdtag_to_ubytesel : decodes [
    (0x040E202B45CA, .rdtag 69 (-256) 86 113),
    (0x000E2000469C, .readdpc 70 113),
    (0x000E2000479E, .readpcsw 71 113),
    (0x000E2000459D, .readspc 69 113),
    (0x000E2AEB4661, .rol 70 86 43 113),
    (0x015E202B4762, .roli 71 21 86 113),
    (0x000E202B4533, .sex16 69 86 113),
    (0x080E202B4638, .sex8 70 86 113),
    (0x08000AEB471E, .st16 71 86 43),
    (0x13F00AEB451E, .st16d 69 126 86 43),
    (0x08000AEB461F, .st32 70 86 43),
    (0x13F00AEB471F, .st32d 71 252 86 43),
    (0x08000AEB451D, .st8 69 86 43),
    (0x13F00AEB461D, .st8d 70 63 86 43),
    (0x000E2AEB4737, .ubytesel 71 86 43 113)] = true := by decide

theorem test_decode_uclipi_to_ugeq : decodes [
    (0x000E2AEB454B, .uclipi 69 86 43 113),
    (0x000E2AEB464C, .uclipu 70 86 43 113),
    (0x080E2AEB4725, .ueql 71 86 43 113),
    (0x07FE202B4526, .ueqli 69 127 86 113),
    (0x000E2AEB465E, .ufir16 70 86 43 113),
    (0x000E2AEB475A, .ufir8uu 71 86 43 113),
    (0x000E202B457B, .ufixieee 69 86 113),
    (0x000E202B467C, .ufixieeeflags 70 86 113),
    (0x000E202B477D, .ufixrz 71 86 113),
    (0x000E202B457E, .ufixrzflags 69 86 113),
    (0x000E202B467F, .ufloat 70 86 113),
    (0x000E202B4780, .ufloatflags 71 86 113),
    (0x000E202B4577, .ufloatrz 69 86 113),
    (0x000E202B4678, .ufloatrzflags 70 86 113),
    (0x000E2AEB4723, .ugeq 71 86 43 113)] = true := by decide

theorem test_decode_ugeqi_to_ulesi : decodes [
    (0x07FE202B4524, .ugeqi 69 127 86 113),
    (0x000E2AEB4621, .ugtr 70 86 43 113),
    (0x07FE202B4722, .ugtri 71 127 86 113),
    (0xC000000071BF, .uimm 2147483648 113),
    (0x080E202B46C5, .uld16 70 86 113),
    (0x03FE202B47C5, .uld16d 71 126 86 113),
    (0x000E2AEB45C6, .uld16r 69 86 43 113),
    (0x000E2AEB46C7, .uld16x 70 86 43 113),
    (0x080E202B4708, .uld8 71 86 113),
    (0x03FE202B4508, .uld8d 69 63 86 113),
    (0x000E2AEB46C2, .uld8r 70 86 43 113),
    (0x080E2AEB4723, .uleq 71 86 43 113),
    (0x07FE202B452B, .uleqi 69 127 86 113),
    (0x100E2AEB4621, .ules 70 86 43 113),
    (0x07FE202B4729, .ulesi 71 127 86 113)] = true := by decide

theorem test_decode_ume8ii_to_zex8 : decodes [
    (0x000E2AEB4540, .ume8ii 69 86 43 113),
    (0x000E2AEB461A, .ume8uu 70 86 43 113),
    (0x080E2AEB474C, .umin 71 86 43 113),
    (0x000E2AEB458A, .umul 69 86 43 113),
    (0x000E2AEB468C, .umulm 70 86 43 113),
    (0x080E2AEB4727, .uneq 71 86 43 113),
    (0x064E202B4528, .uneqi 69 100 86 113),
    (0x0000002B46A0, .writedpc 70 86),
    (0x00000AEB47A1, .writepcsw 71 86 43),
    (0x0000002B459F, .writespc 69 86),
    (0x080E202B4635, .zex16 70 86 113),
    (0x080E202B4737, .zex8 71 86 113)] = true := by decide

/-! ### Values of single operations, from the examples and vectors of spec/95_test_vectors.md and
spec/96_test_vectors_derived.md -/

theorem test_asl_to_bitinv : (
    gives (.asl 1 2 3 4) 0x80000001 0xFFFFFFFF 0
    && gives (.asl 1 2 3 4) 0xFFFFFFFC 2 0xFFFFFFF0
    && gives (.asli 1 2 2 4) 0xFFFFFFFC 0 0xFFFFFFF0
    && gives (.asli 1 30 2 4) 0xE 0 0x80000000
    && gives (.asr 1 2 3 4) 0x7FFFFFFF 0x100 0
    && gives (.asr 1 2 3 4) 0x7008000F 1 0x38040007
    && gives (.asri 1 1 2 4) 0x7008000F 0 0x38040007
    && gives (.asri 1 2 2 4) 0x7008000F 0 0x1C020003
    && gives (.bitand 1 2 3 4) 0xF310FFFF 0xFFFF0000 0xF3100000
    && gives (.bitand 1 2 3 4) 0x55555555 0xF310FFFF 0x51105555
    && gives (.bitandinv 1 2 3 4) 0xF310FFFF 0xFFFF0000 0xFFFF
    && gives (.bitandinv 1 2 3 4) 0x55555555 0xF310FFFF 0x4450000
    && gives (.bitinv 1 2 4) 0xF310FFFF 0 0xCEF0000
    && gives (.bitinv 1 2 4) 0x88888888 0 0x77777777) = true := by decide

theorem test_bitor_to_lsli : (
    gives (.bitor 1 2 3 4) 0xF310FFFF 0xFFFF0000 0xFFFFFFFF
    && gives (.bitor 1 2 3 4) 0x55555555 0xF310FFFF 0xF755FFFF
    && gives (.bitxor 1 2 3 4) 0xF310FFFF 0xFFFF0000 0xCEFFFFF
    && gives (.bitxor 1 2 3 4) 0x55555555 0xF310FFFF 0xA645AAAA
    && gives (.funshift1 1 2 3 4) 0x11223344 0xAABBCCDD 0x223344AA
    && gives (.funshift1 1 2 3 4) 0xAABBCCDD 0x11223344 0xBBCCDD11
    && gives (.funshift2 1 2 3 4) 0x11223344 0xAABBCCDD 0x3344AABB
    && gives (.funshift2 1 2 3 4) 0xAABBCCDD 0x11223344 0xCCDD1122
    && gives (.funshift3 1 2 3 4) 0x11223344 0xAABBCCDD 0x44AABBCC
    && gives (.funshift3 1 2 3 4) 0xAABBCCDD 0x11223344 0xDD112233
    && gives (.lsl 1 2 3 4) 0xE 0xFFFFFFFE 0
    && gives (.lsl 1 2 3 4) 0xFFFFFFFC 2 0xFFFFFFF0
    && gives (.lsli 1 2 2 4) 0xFFFFFFFC 0 0xFFFFFFF0
    && gives (.lsli 1 30 2 4) 0xE 0 0x80000000) = true := by decide

theorem test_lsr_to_roli : (
    gives (.lsr 1 2 3 4) 0x7008000F 1 0x38040007
    && gives (.lsr 1 2 3 4) 0x80000001 0x1F 1
    && gives (.lsri 1 1 2 4) 0x7008000F 0 0x38040007
    && gives (.lsri 1 2 2 4) 0x7008000F 0 0x1C020003
    && gives (.rol 1 2 3 4) 0xE 0xFFFFFFFE 0x80000003
    && gives (.rol 1 2 3 4) 0xFFFFFFFC 2 0xFFFFFFF3
    && gives (.roli 1 2 2 4) 0xFFFFFFFC 0 0xFFFFFFF3
    && gives (.roli 1 8 2 4) 0x12345678 0 0x34567812) = true := by decide

theorem test_dspiabs_to_dspimul : (
    gives (.dspiabs 1 2 4) 0xFFFFFFFF 0 1
    && gives (.dspiabs 1 2 4) 0x7FFFFFFF 0 0x7FFFFFFF
    && gives (.dspiadd 1 2 3 4) 0x80000000 0xFFFFFFFF 0x80000000
    && gives (.dspiadd 1 2 3 4) 0x7FFFFFFF 1 0x7FFFFFFF
    && gives (.dspidualabs 1 2 4) 0x7FFFFFFF 0 0x7FFF0001
    && gives (.dspidualabs 1 2 4) 0xFFFF0032 0 0x10032
    && gives (.dspidualadd 1 2 3 4) 0x17FFF 0x7FFF7FFF 0x7FFF7FFF
    && gives (.dspidualadd 1 2 3 4) 0x7FFF8000 0x1FFFF 0x7FFF8000
    && gives (.dspidualmul 1 2 3 4) 0x1000003 0x100FFFE 0x7FFFFFFA
    && gives (.dspidualmul 1 2 3 4) 0x80008000 0x80007FFF 0x7FFF8000
    && gives (.dspidualsub 1 2 3 4) 0x80007FFF 0x1FFFF 0x80007FFF
    && gives (.dspidualsub 1 2 3 4) 0x12340032 0x10002 0x12330030
    && gives (.dspimul 1 2 2 4) 0xFFFFFFFF 0xFFFFFFFF 1
    && gives (.dspimul 1 2 3 4) 0x10000 0xFFFF0000 0x80000000) = true := by decide

theorem test_dspisub_to_dualiclipi : (
    gives (.dspisub 1 2 3 4) 0x7FFFFFFF 0xFFFFFFFF 0x7FFFFFFF
    && gives (.dspisub 1 2 3 4) 0x1200 0xFF 0x1101
    && gives (.dspuadd 1 2 3 4) 0xFFFFFFFF 1 0xFFFFFFFF
    && gives (.dspuadd 1 2 3 4) 0x1200 0xFF 0x12FF
    && gives (.dspumul 1 2 2 4) 0xFFFFFFFF 0xFFFFFFFF 0xFFFFFFFF
    && gives (.dspumul 1 2 3 4) 0x10 0x20 0x200
    && gives (.dspuquadaddui 1 2 3 4) 0x2010001 0xFFFFFF01 0x1000002
    && gives (.dspuquadaddui 1 2 3 4) 0x1180FF01 0x58001FF 0x1600FF00
    && gives (.dspusub 1 2 3 4) 0x80000001 0xFFFFFFFF 0
    && gives (.dspusub 1 2 3 4) 0x1200 0xFF 0x1101
    && gives (.dualasr 1 2 3 4) 0x70087008 1 0x38043804
    && gives (.dualasr 1 2 3 4) 0x70087008 2 0x1C021C02
    && gives (.dualiclipi 1 2 3 4) 0x7FFF7FFF 0x7FFE 0x7FFE7FFE
    && gives (.dualiclipi 1 2 3 4) 0xFFFEFF 0xFF 0xFFFF00) = true := by decide

theorem test_dualuclipi_to_ifir8ui : (
    gives (.dualuclipi 1 2 3 4) 0x7FFF8000 0xFF 0xFF0000
    && gives (.dualuclipi 1 2 3 4) 0x80008000 0x3FF 0
    && gives (.hDspiabs 1 0 3 4) 0 0x80000000 0x7FFFFFFF
    && gives (.hDspidualabs 1 0 3 4) 0 0xFFFF0032 0x10032
    && gives (.iclipi 1 2 3 4) 0xFFFFFEFF 0xFF 0xFFFFFF00
    && gives (.iclipi 1 2 3 4) 0x80000000 0x7FFFFFFF 0x80000000
    && gives (.ifir16 1 2 3 4) 0x20003 0xFFFFFFFE 0xFFFFFFF8
    && gives (.ifir16 1 2 3 4) 0x80008000 0x7FFF7FFF 0x80010000
    && gives (.ifir8ii 1 2 3 4) 0x80808080 0xFFFFFFFF 0x200
    && gives (.ifir8ii 1 2 3 4) 0x1FF027F 0x2FE0380 0xFFFFC08A
    && gives (.ifir8ui 1 2 3 4) 0xFFFFFFFF 0x80808080 0xFFFE0200
    && gives (.ifir8ui 1 2 3 4) 0x80808080 0xFFFFFFFF 0xFFFFFE00) = true := by decide

theorem test_iflip_to_quadumulmsb : (
    gives (.iflip 1 2 3 4) 1 0xFFFFFFFF 1
    && gives (.iflip 1 2 3 4) 0 0xFFFFFF9C 0xFFFFFF9C
    && gives (.imax 1 2 3 4) 0xFFFFFF00 0xFFFFFF9C 0xFFFFFF9C
    && gives (.imax 1 2 3 4) 5 0xFFFFFFFB 5
    && gives (.imin 1 2 3 4) 0xFFFFFF00 0xFFFFFF9C 0xFFFFFF00
    && gives (.imin 1 2 3 4) 5 0xFFFFFFFB 0xFFFFFFFB
    && gives (.quadavg 1 2 3 4) 0x201000E 0xFFFFFF02 0x81808008
    && gives (.quadavg 1 2 3 4) 0x1080FF00 0x1180FF01 0x1180FF01
    && gives (.quadumax 1 2 3 4) 0x1FF8000 0x2FE7FFF 0x2FF80FF
    && gives (.quadumax 1 2 3 4) 0x201000E 0xFF00FF02 0xFF01FF0E
    && gives (.quadumin 1 2 3 4) 0x1FF8000 0x2FE7FFF 0x1FE7F00
    && gives (.quadumin 1 2 3 4) 0x201000E 0xFF00FF02 0x2000002
    && gives (.quadumulmsb 1 2 3 4) 0x210800E 0xFFFFFF02 0x10F7F00
    && gives (.quadumulmsb 1 2 3 4) 0xFF801001 0xFF80100F 0xFE400100) = true := by decide

theorem test_uclipi_to_umin : (
    gives (.uclipi 1 2 3 4) 0xFFFFFFFF 0xFF 0
    && gives (.uclipi 1 2 3 4) 0x100 0xFF 0xFF
    && gives (.uclipu 1 2 3 4) 0xFFFFFFFF 0xFF 0xFF
    && gives (.uclipu 1 2 3 4) 0x80000000 0x3FFFFF 0x3FFFFF
    && gives (.ufir16 1 2 3 4) 0xFFFFFFFF 0xFFFFFFFF 0xFFFFFFFF
    && gives (.ufir16 1 2 3 4) 0x20003 0x648000 0x180C8
    && gives (.ufir8uu 1 2 3 4) 0xFFFFFFFF 0xFFFFFFFF 0x3F804
    && gives (.ufir8uu 1 2 3 4) 0x80808080 0xFFFFFFFF 0x1FE00
    && gives (.ume8ii 1 2 3 4) 0x807F00FF 0x7F8001FE 0x200
    && gives (.ume8ii 1 2 3 4) 0x80808080 0x7F7F7F7F 0x3FC
    && gives (.ume8uu 1 2 3 4) 0x807F00FF 0x7F8001FE 4
    && gives (.ume8uu 1 2 3 4) 0xFF00FF00 0xFF00FF 0x3FC
    && gives (.umin 1 2 3 4) 5 0xFFFFFFFB 5
    && gives (.umin 1 2 3 4) 0x80000000 0x3FFFFF 0x3FFFFF) = true := by decide

theorem test_fabsval_to_fmul : (
    gives (.fabsval 1 2 4) 0xFFA00000 0 0xFFE00000 0x10
    && gives (.fabsval 1 2 4) 0x80400000 0 0 0x20
    && gives (.fabsvalflags 1 2 4) 0x40400000 0 0
    && gives (.fabsvalflags 1 2 4) 0xBF800000 0 0
    && gives (.fadd 1 2 3 4) 0xFF7FFFFF 0xFF7FFFFF 0xFF7FFFFF 0xA 2
    && gives (.fadd 1 2 3 4) 0xFF7FFFFF 0xFF7FFFFF 0xFF800000 0xA 3
    && gives (.faddflags 1 2 3 4) 0x7F7FFFFF 0x3F800000 2
    && gives (.faddflags 1 2 3 4) 0x7F800000 0xFF800000 0x10
    && gives (.fdiv 1 2 3 4) 0x7F800000 0x7F800000 0xFFFFFFFF 0x10
    && gives (.fdiv 1 2 3 4) 0x3F800000 0x40400000 0x3EAAAAAA 2 1
    && gives (.fdivflags 1 2 3 4) 0x7F7FFFFF 0x3F800000 0
    && gives (.fdivflags 1 2 3 4) 0x40400000 0x400000 0x21
    && gives (.fmul 1 2 3 4) 0x7F800000 0x400000 0xFFFFFFFF 0x30
    && gives (.fmul 1 2 3 4) 0x800000 0x800000 0 0x46 2) = true := by decide

theorem test_fmulflags_to_fsubflags : (
    gives (.fmulflags 1 2 3 4) 0xC0400000 0x3F800000 0
    && gives (.fmulflags 1 2 3 4) 0x40400000 0xC0400000 0
    && gives (.fsign 1 2 4) 0x7FC00000 0 0 0x10
    && gives (.fsign 1 2 4) 0xFF800000 0 0xFFFFFFFF
    && gives (.fsignflags 1 2 4) 0x40400000 0 0
    && gives (.fsignflags 1 2 4) 0xBF800000 0 0
    && gives (.fsqrt 1 2 4) 0xBF800000 0 0xFFFFFFFF 0x10
    && gives (.fsqrt 1 2 4) 0x40000000 0 0x3FB504F4 2 2
    && gives (.fsqrtflags 1 2 4) 0xC0400000 0 0x10
    && gives (.fsqrtflags 1 2 4) 0x40400000 0 2
    && gives (.fsub 1 2 3 4) 0x3F800000 0x7FC00001 0x7FC00001
    && gives (.fsub 1 2 3 4) 0x80C00000 0x80800000 0 0x46
    && gives (.fsubflags 1 2 3 4) 0xC0400000 0x3F800000 0
    && gives (.fsubflags 1 2 3 4) 0x40400000 0xC0400000 0) = true := by decide

theorem test_ifixieee_to_ifloatrz : (
    gives (.ifixieee 1 2 4) 0x4EFFFFFF 0 0x7FFFFF80
    && gives (.ifixieee 1 2 4) 0xC0200000 0 0xFFFFFFFD 2 3
    && gives (.ifixieeeflags 1 2 4) 0x40400000 0 0
    && gives (.ifixieeeflags 1 2 4) 0x40247AE1 0 2
    && gives (.ifixrz 1 2 4) 0x40200000 0 2 2 2
    && gives (.ifixrz 1 2 4) 0xBF7FFFFF 0 0 2
    && gives (.ifixrzflags 1 2 4) 0x40400000 0 0
    && gives (.ifixrzflags 1 2 4) 0x40247AE1 0 2
    && gives (.ifloat 1 2 4) 0x7FFFFFFF 0 0x4EFFFFFF 2 1
    && gives (.ifloat 1 2 4) 0xFEFFFFFF 0 0xCB800000 2 2
    && gives (.ifloatflags 1 2 4) 3 0 0
    && gives (.ifloatflags 1 2 4) 0x7FFFFFFF 0 2
    && gives (.ifloatrz 1 2 4) 0x7FFFFFFF 0 0x4EFFFFFF 2) = true := by decide

theorem test_ifloatrzflags_to_ufloatflags : (
    gives (.ifloatrzflags 1 2 4) 3 0 0
    && gives (.ifloatrzflags 1 2 4) 0x7FFFFFFF 0 2
    && gives (.ufixieee 1 2 4) 0x4F7FFFFF 0 0xFFFFFF00
    && gives (.ufixieee 1 2 4) 0xBF000000 0 0 0x10 3
    && gives (.ufixieeeflags 1 2 4) 0x40400000 0 0
    && gives (.ufixieeeflags 1 2 4) 0x40247AE1 0 2
    && gives (.ufixrz 1 2 4) 0x4F000000 0 0x80000000
    && gives (.ufixrz 1 2 4) 0x3FFFFFFF 0 1 2
    && gives (.ufixrzflags 1 2 4) 0x40400000 0 0
    && gives (.ufixrzflags 1 2 4) 0x40247AE1 0 2
    && gives (.ufloat 1 2 4) 0xFFFFFFFF 0 0x4F7FFFFF 2 1
    && gives (.ufloat 1 2 4) 0xFFFFFFFF 0 0x4F800000 2
    && gives (.ufloatflags 1 2 4) 3 0 0
    && gives (.ufloatflags 1 2 4) 0xFFFFFFFF 0 2) = true := by decide

theorem test_ufloatrz_to_ufloatrzflags : (
    gives (.ufloatrz 1 2 4) 0xFFFFFFFF 0 0x4F7FFFFF 2 2
    && gives (.ufloatrzflags 1 2 4) 3 0 0
    && gives (.ufloatrzflags 1 2 4) 0xFFFFFFFF 0 2) = true := by decide

theorem test_feql_to_fleq : (
    gives (.feql 1 2 3 4) 0x7FA00000 0x3F800000 0 0x10
    && gives (.feql 1 2 3 4) 0x3F800000 0x3F800000 1
    && gives (.feqlflags 1 2 3 4) 0x40400000 0 0
    && gives (.feqlflags 1 2 2 4) 0x40400000 0x40400000 0
    && gives (.fgeq 1 2 3 4) 0xFF800000 0x7F7FFFFF 0
    && gives (.fgeq 1 2 3 4) 0x3F800000 0x3F800000 1
    && gives (.fgeqflags 1 2 3 4) 0x40400000 0 0
    && gives (.fgeqflags 1 2 2 4) 0x40400000 0x40400000 0
    && gives (.fgtr 1 2 3 4) 0x7F800000 0x7F7FFFFF 1
    && gives (.fgtr 1 2 3 4) 0x3F800000 0x7FC00000 0 0x10
    && gives (.fgtrflags 1 2 3 4) 0x40400000 0 0
    && gives (.fgtrflags 1 2 2 4) 0x40400000 0x40400000 0
    && gives (.fleq 1 2 3 4) 0x7FC00000 0x3F800000 0 0x10
    && gives (.fleq 1 2 3 4) 0x3F800000 0x40400000 1) = true := by decide

theorem test_fleqflags_to_fneqflags : (
    gives (.fleqflags 1 2 3 4) 0x40400000 0 0
    && gives (.fleqflags 1 2 2 4) 0x40400000 0x40400000 0
    && gives (.fles 1 2 3 4) 0x3F800000 0x3F800000 0
    && gives (.fles 1 2 3 4) 0xC0400000 0xBF800000 1
    && gives (.flesflags 1 2 3 4) 0x40400000 0 0
    && gives (.flesflags 1 2 2 4) 0x40400000 0x40400000 0
    && gives (.fneq 1 2 3 4) 0x7FA00000 0x3F800000 0 0x10
    && gives (.fneq 1 2 3 4) 0x3F800000 0x40400000 1
    && gives (.fneqflags 1 2 3 4) 0x40400000 0 0
    && gives (.fneqflags 1 2 2 4) 0x40400000 0x40400000 0) = true := by decide

theorem test_borrow_to_iavgonep : (
    gives (.borrow 1 2 2 4) 0xFFFFFFFC 0xFFFFFFFC 0
    && gives (.borrow 1 2 3 4) 2 0xFFFFFFFC 1
    && gives (.carry 1 2 2 4) 0xFFFFFFFC 0xFFFFFFFC 1
    && gives (.carry 1 2 3 4) 0x7FFFFFFF 0x80000000 0
    && gives (.hIabs 1 0 3 4) 0 0xFFFFFFFF 1
    && gives (.hIabs 1 0 3 4) 0 0x80000001 0x7FFFFFFF
    && gives (.iabs 1 2 4) 0xFFFFFFF9 0 7
    && gives (.iabs 1 2 4) 0x80000001 0 0x7FFFFFFF
    && gives (.iadd 1 2 3 4) 0xFFFFFF00 0xFFFFFF9C 0xFFFFFE9C
    && gives (.iadd 1 2 3 4) 0xFFFFFFFF 1 0
    && gives (.iaddi 1 2 2 4) 0xFFFFFFF0 0 0xFFFFFFF2
    && gives (.iaddi 1 17 2 4) 0xFFFFFFF0 0 1
    && gives (.iavgonep 1 2 3 4) 0xFFFFFFFF 0xFFFFFFFE 0xFFFFFFFF
    && gives (.iavgonep 1 2 3 4) 0x7FFFFFFF 0x7FFFFFFF 0x7FFFFFFF) = true := by decide

theorem test_ident_to_isub : (
    gives (.ident 1 2 4) 0xDEADBEEF 0 0xDEADBEEF
    && gives (.ident 1 2 4) 0x100 0 0x100
    && gives (.iimm (-1) 4) 0 0 0xFFFFFFFF
    && gives (.iimm 256 4) 0 0 0x100
    && gives (.imul 1 2 3 4) 0xFFFFFF00 0xFFFFFF9C 0x6400
    && gives (.imul 1 2 3 4) 0xFFFFFFFF 3 0xFFFFFFFD
    && gives (.imulm 1 2 3 4) 0xFFFFFFFF 3 0xFFFFFFFF
    && gives (.imulm 1 2 3 4) 0x10000 0x10000 1
    && gives (.ineg 1 2 4) 0xFFFFFFFF 0 1
    && gives (.ineg 1 2 4) 0x80000001 0 0x7FFFFFFF
    && gives (.inonzero 1 2 3 4) 0 0xFFFFFF9C 0xFFFFFF9C
    && gives (.inonzero 1 2 3 4) 5 0x12345678 0
    && gives (.isub 1 2 3 4) 3 4 0xFFFFFFFF
    && gives (.isub 1 2 3 4) 0x80000000 1 0x7FFFFFFF) = true := by decide

theorem test_isubi_to_umulm : (
    gives (.isubi 1 2 2 4) 0xFFFFFFF0 0 0xFFFFFFEE
    && gives (.isubi 1 127 2 4) 0xF11 0 0xE92
    && gives (.izero 1 2 3 4) 0 0xFFFFFF9C 0
    && gives (.izero 1 2 3 4) 2 0x12345678 0x12345678
    && gives (.sex16 1 2 4) 0xFFFF7FFF 0 0x7FFF
    && gives (.sex16 1 2 4) 0xFFFF0040 0 0x40
    && gives (.sex8 1 2 4) 0xFFFF0040 0 0x40
    && gives (.sex8 1 2 4) 0x91 0 0xFFFFFF91
    && gives (.uimm 3735928559 4) 0 0 0xDEADBEEF
    && gives (.uimm 256 4) 0 0 0x100
    && gives (.umul 1 2 3 4) 0xFFFFFFFF 0xFFFFFFFF 1
    && gives (.umul 1 2 3 4) 0x100 0xFFFFFF9C 0xFFFF9C00
    && gives (.umulm 1 2 3 4) 0xFFFFFFFF 0xFFFFFFFF 0xFFFFFFFE
    && gives (.umulm 1 2 3 4) 0xFFFFFF00 0x100 0xFF) = true := by decide

theorem test_zex16_to_zex8 : (
    gives (.zex16 1 2 4) 0xFFFF8000 0 0x8000
    && gives (.zex16 1 2 4) 0xFFFF0040 0 0x40
    && gives (.zex8 1 2 4) 0xFFFFFF80 0 0x80
    && gives (.zex8 1 2 4) 0xFFFF0040 0 0x40) = true := by decide

theorem test_ieql_to_ileq : (
    gives (.ieql 1 2 3 4) 0xFFFFFFFF 1 0
    && gives (.ieql 1 2 2 4) 0x80000000 0x80000000 1
    && gives (.ieqli 1 (-64) 2 4) 0xFFFFFFC0 0 1
    && gives (.ieqli 1 2 2 4) 3 0 0
    && gives (.igeq 1 2 3 4) 0xFFFFFFFF 1 0
    && gives (.igeq 1 2 3 4) 0x80000000 0x80000000 1
    && gives (.igeqi 1 63 2 4) 0x3F 0 1
    && gives (.igeqi 1 4 2 4) 3 0 0
    && gives (.igtr 1 2 3 4) 0xFFFFFFFF 1 0
    && gives (.igtr 1 2 3 4) 3 4 0
    && gives (.igtri 1 63 2 4) 0x3F 0 0
    && gives (.igtri 1 2 2 4) 3 0 1
    && gives (.ileq 1 2 3 4) 0xFFFFFFFF 1 1
    && gives (.ileq 1 2 3 4) 3 4 1) = true := by decide

theorem test_ileqi_to_ueqli : (
    gives (.ileqi 1 2 2 4) 3 0 0
    && gives (.ileqi 1 3 2 4) 3 0 1
    && gives (.iles 1 2 3 4) 0xFFFFFFFF 1 1
    && gives (.iles 1 2 3 4) 0x80000000 0x80000000 0
    && gives (.ilesi 1 (-64) 2 4) 0xFFFFFFBF 0 1
    && gives (.ilesi 1 2 2 4) 3 0 0
    && gives (.ineq 1 2 3 4) 0xFFFFFFFF 1 1
    && gives (.ineq 1 2 2 4) 0x80000000 0x80000000 0
    && gives (.ineqi 1 (-64) 2 4) 0xFFFFFFC0 0 0
    && gives (.ineqi 1 2 2 4) 3 0 1
    && gives (.ueql 1 2 3 4) 0xFFFFFFFF 1 0
    && gives (.ueql 1 2 2 4) 0x80000000 0x80000000 1
    && gives (.ueqli 1 127 2 4) 0x7F 0 1
    && gives (.ueqli 1 2 2 4) 3 0 0) = true := by decide

theorem test_ugeq_to_ules : (
    gives (.ugeq 1 2 3 4) 0xFFFFFFFF 1 1
    && gives (.ugeq 1 2 3 4) 3 4 0
    && gives (.ugeqi 1 2 2 4) 3 0 1
    && gives (.ugeqi 1 4 2 4) 3 0 0
    && gives (.ugtr 1 2 3 4) 0xFFFFFFFF 1 1
    && gives (.ugtr 1 2 3 4) 3 4 0
    && gives (.ugtri 1 127 2 4) 0xFFFFFFFF 0 1
    && gives (.ugtri 1 3 2 4) 3 0 0
    && gives (.uleq 1 2 3 4) 0xFFFFFFFF 1 0
    && gives (.uleq 1 2 3 4) 3 4 1
    && gives (.uleqi 1 127 2 4) 0xFFFFFFFF 0 0
    && gives (.uleqi 1 3 2 4) 3 0 1
    && gives (.ules 1 2 3 4) 0xFFFFFFFF 1 0
    && gives (.ules 1 2 3 4) 3 4 1) = true := by decide

theorem test_ulesi_to_uneqi : (
    gives (.ulesi 1 127 2 4) 0x7E 0 1
    && gives (.ulesi 1 2 2 4) 3 0 0
    && gives (.uneq 1 2 3 4) 0xFFFFFFFF 1 1
    && gives (.uneq 1 2 2 4) 0x80000000 0x80000000 0
    && gives (.uneqi 1 127 2 4) 0x7F 0 0
    && gives (.uneqi 1 2 2 4) 3 0 1) = true := by decide

theorem test_ibytesel_to_packbytes : (
    gives (.ibytesel 1 2 3 4) 0x80FF7F01 3 0xFFFFFF80
    && gives (.ibytesel 1 2 3 4) 0x80FF7F01 1 0x7F
    && gives (.mergedual16lsb 1 2 3 4) 0xA0A1A2A3 0xB0B1B2B3 0xA1A3B1B3
    && gives (.mergelsb 1 2 3 4) 0xA0A1A2A3 0xB0B1B2B3 0xA2B2A3B3
    && gives (.mergelsb 1 2 3 4) 0x12345678 0xAABBCCDD 0x56CC78DD
    && gives (.mergemsb 1 2 3 4) 0xA0A1A2A3 0xB0B1B2B3 0xA0B0A1B1
    && gives (.mergemsb 1 2 3 4) 0x12345678 0xAABBCCDD 0x12AA34BB
    && gives (.pack16lsb 1 2 3 4) 0xA0B0A1B1 0xC0D0C1D1 0xA1B1C1D1
    && gives (.pack16msb 1 2 3 4) 0xA0B0A1B1 0xC0D0C1D1 0xA0B0C0D0
    && gives (.pack16msb 1 2 3 4) 0x12345678 0xAABBCCDD 0x1234AABB
    && gives (.packbytes 1 2 3 4) 0x123456AB 0x789ABCCD 0xABCD
    && gives (.packbytes 1 2 3 4) 0x12345678 0xAABBCCDD 0x78DD) = true := by decide

theorem test_ubytesel_to_ubytesel : (
    gives (.ubytesel 1 2 3 4) 0x80FF7F01 3 0x80
    && gives (.ubytesel 1 2 3 4) 0x80FF7F01 0 1) = true := by decide

/-! ### Loads and stores: memory 01 23 45 67 89 AB CD EF from 0x1000 on; values by hand from R101, R103, R262, R263 -/

theorem test_loads_1 : (
    loads (.ild16 1 2 4) 0x1005 0 false 0xFFFF89AB
    && loads (.ild16 1 2 4) 0x1005 0 true 0xFFFFAB89
    && loads (.ild16d 1 4 2 4) 0x1002 0 false 0xFFFFCDEF
    && loads (.ild16d 1 (-4) 2 4) 0x1006 0 true 0x6745
    && loads (.ild16r 1 2 3 4) 0x1007 0xFFFFFFFF false 0xFFFFCDEF
    && loads (.ild16r 1 2 3 4) 0x1007 0xFFFFFFFF true 0xFFFFEFCD
    && loads (.ild16x 1 2 3 4) 0x1008 0xFFFFFFFF false 0xFFFFCDEF
    && loads (.ild16x 1 2 3 4) 0x1008 0xFFFFFFFF true 0xFFFFEFCD
    && loads (.ild8 1 2 4) 0x1005 0 false 0xFFFFFFAB
    && loads (.ild8 1 2 4) 0x1005 0 true 0xFFFFFFAB
    && loads (.ild8d 1 4 2 4) 0x1002 0 false 0xFFFFFFCD
    && loads (.ild8d 1 (-4) 2 4) 0x1006 0 true 0x45) = true := by decide

theorem test_loads_2 : (
    loads (.ild8r 1 2 3 4) 0x1007 0xFFFFFFFF false 0xFFFFFFCD
    && loads (.ild8r 1 2 3 4) 0x1007 0xFFFFFFFF true 0xFFFFFFCD
    && loads (.ld32 1 2 4) 0x1005 0 false 0x89ABCDEF
    && loads (.ld32 1 2 4) 0x1005 0 true 0xEFCDAB89
    && loads (.ld32d 1 4 2 4) 0x1002 0 false 0x89ABCDEF
    && loads (.ld32d 1 (-4) 2 4) 0x1006 0 true 0x67452301
    && loads (.ld32r 1 2 3 4) 0x1007 0xFFFFFFFF false 0x89ABCDEF
    && loads (.ld32r 1 2 3 4) 0x1007 0xFFFFFFFF true 0xEFCDAB89
    && loads (.ld32x 1 2 3 4) 0x1008 0xFFFFFFFF false 0x89ABCDEF
    && loads (.ld32x 1 2 3 4) 0x1008 0xFFFFFFFF true 0xEFCDAB89
    && loads (.uld16 1 2 4) 0x1005 0 false 0x89AB
    && loads (.uld16 1 2 4) 0x1005 0 true 0xAB89) = true := by decide

theorem test_loads_3 : (
    loads (.uld16d 1 4 2 4) 0x1002 0 false 0xCDEF
    && loads (.uld16d 1 (-4) 2 4) 0x1006 0 true 0x6745
    && loads (.uld16r 1 2 3 4) 0x1007 0xFFFFFFFF false 0xCDEF
    && loads (.uld16r 1 2 3 4) 0x1007 0xFFFFFFFF true 0xEFCD
    && loads (.uld16x 1 2 3 4) 0x1008 0xFFFFFFFF false 0xCDEF
    && loads (.uld16x 1 2 3 4) 0x1008 0xFFFFFFFF true 0xEFCD
    && loads (.uld8 1 2 4) 0x1005 0 false 0xAB
    && loads (.uld8 1 2 4) 0x1005 0 true 0xAB
    && loads (.uld8d 1 4 2 4) 0x1002 0 false 0xCD
    && loads (.uld8d 1 (-4) 2 4) 0x1006 0 true 0x45
    && loads (.uld8r 1 2 3 4) 0x1007 0xFFFFFFFF false 0xCD
    && loads (.uld8r 1 2 3 4) 0x1007 0xFFFFFFFF true 0xCD) = true := by decide

theorem test_stores : (
    stores (.hSt16d 1 0 3 2) 0x1003 0xA1B2C3D4 false 0x123C3D489ABCDEF true
    && stores (.hSt16d 1 4 3 2) 0x1003 0xA1B2C3D4 true 0x123456789ABD4C3 true
    && stores (.hSt32d 1 0 3 2) 0x1003 0xA1B2C3D4 false 0xA1B2C3D489ABCDEF true
    && stores (.hSt32d 1 4 3 2) 0x1003 0xA1B2C3D4 true 0x1234567D4C3B2A1 true
    && stores (.hSt8d 1 0 3 2) 0x1003 0xA1B2C3D4 false 0x12345D489ABCDEF false
    && stores (.hSt8d 1 4 3 2) 0x1003 0xA1B2C3D4 true 0x123456789ABCDD4 false
    && stores (.st16 1 2 3) 0x1003 0xA1B2C3D4 false 0x123C3D489ABCDEF true
    && stores (.st16 1 2 3) 0x1003 0xA1B2C3D4 true 0x123D4C389ABCDEF true
    && stores (.st16d 1 0 2 3) 0x1003 0xA1B2C3D4 false 0x123C3D489ABCDEF true
    && stores (.st16d 1 4 2 3) 0x1003 0xA1B2C3D4 true 0x123456789ABD4C3 true
    && stores (.st32 1 2 3) 0x1003 0xA1B2C3D4 false 0xA1B2C3D489ABCDEF true
    && stores (.st32 1 2 3) 0x1003 0xA1B2C3D4 true 0xD4C3B2A189ABCDEF true
    && stores (.st32d 1 0 2 3) 0x1003 0xA1B2C3D4 false 0xA1B2C3D489ABCDEF true
    && stores (.st32d 1 4 2 3) 0x1003 0xA1B2C3D4 true 0x1234567D4C3B2A1 true
    && stores (.st8 1 2 3) 0x1003 0xA1B2C3D4 false 0x12345D489ABCDEF false
    && stores (.st8 1 2 3) 0x1003 0xA1B2C3D4 true 0x12345D489ABCDEF false
    && stores (.st8d 1 0 2 3) 0x1003 0xA1B2C3D4 false 0x12345D489ABCDEF false
    && stores (.st8d 1 4 2 3) 0x1003 0xA1B2C3D4 true 0x123456789ABCDD4 false) = true := by decide


/-! ### Cache control, jumps, special registers: effects by hand from R220 to R223, R240 to R244, R510 to R554 -/

/-- The state after a store of 0xA1B2C3D4 to 0x1000: its block is in the cache, dirty. -/
def dirtied : State := { after (exec (.st32 1 2 3) (small 0x1000 0xA1B2C3D4 0x800 eight)) with issue := IssueLog.empty }

theorem test_alloc : ([(.alloc 1 2), (.allocd 1 64 2), (.allocr 1 2 3), (.allocx 1 2 3)] : List Instr).map
    (fun i => [0x1040, 0x1080, 0x1100].map fun a => ((after (exec i (small 0x1040 0x40 0x800 []))).dFind a).isSome) =
    [[true, false, false], [false, true, false], [false, true, false], [false, false, false]] := by decide

theorem test_allocx_scale : ((after (exec (.allocx 1 2 3) (small 0x1040 0x10 0x800 []))).dFind 0x1080) = some 0 := by decide

theorem test_prefetch_of_a_block_in_the_cache : ([(.pref 1 2), (.prefd 1 0 2), (.prefr 1 2 3), (.pref16x 1 2 3),
      (.pref32x 1 2 3)] : List Instr).map
    (fun i => (after (exec i { dirtied with regs := dirtied.regs.set 3 0 })).cacheEvents[13]) = [1, 1, 1, 1, 1] := by
  decide

theorem test_prefetch_addresses : ([(.prefr 1 2 3), (.pref16x 1 2 3), (.pref32x 1 2 3)] : List Instr).map
    (fun i => (after (exec i { (dirtied.setReg 2 0xFFF).setReg 3 1 with run := .running })).cacheEvents[13]) =
    [1, 1, 1] := by decide

/-- R156: with two fetches outstanding a prefetch is discarded; a fetch that is done fills its block. -/
theorem test_prefetch_fetches : (let s := { small 0x1000 0 0x800 eight with fetches := [⟨5, false⟩, ⟨0x41, true⟩] }
    ((after (exec (.pref 1 2) s)).fetches.length, (s.finishFetch.dFind 0x1040).isSome, s.finishFetch.fetches)) =
    (2, true, [⟨5, false⟩]) := by decide

theorem test_dcb : (let t := after (exec (.dcb 1 0 2) dirtied)
    (t.mem.read 0x1000, t.mem.read 0x1003, (t.dFind 0x1000).isSome, t.dcache[0].lines[0].dirty, t.fetches)) =
    (0xA1, 0xD4, true, false, [⟨0x40, false⟩]) := by decide

/-- R550, R551: a block that is no longer cacheable is not touched. -/
theorem test_cache_control_outside : (let s := { dirtied with dramClimit := 0 }
    [after (exec (.dcb 1 0 2) s), after (exec (.dinvalid 1 0 2) s)].map fun t =>
      (t.dcache[0].lines[0].valid, t.dcache[0].lines[0].dirty, t.mem.read 0x1000)) =
    [(true, true, 0x01), (true, true, 0x01)] := by decide

theorem test_dinvalid : (let t := after (exec (.dinvalid 1 4 2) dirtied)
    (t.mem.read 0x1000, t.dFind 0x1000, t.readByte 0x1000)) = (0x01, none, 0x01) := by decide

theorem test_rdtag : sent (exec (.rdtag 1 0 0 4) dirtied) = some (0x200002, 0) := by decide

theorem test_rdstatus : sent (exec (.rdstatus 1 0 2 4) dirtied) =
    some ((0 : BitVec 14) ++ (1 : BitVec 8) ++ dirtied.dcache[0].lru.image, 0) := rfl

theorem test_iclr : (let s := { State.reset with icache := (State.reset.icache.ensure [] 0 0).1 }
    let t := after (exec (.iclr 1) s)
    (s.icache[0].lines[0].valid, t.icache[0].lines[0].valid, t.icacheOld.map fun o => o.left)) = (true, false, [2]) := by decide

/-- R552: after an iclr in two consecutive instructions, one more is fetched from the oldest cache, one from the next. -/
theorem test_iclr_twice : (let t := after (exec (.iclr 1) (after (exec (.iclr 1) State.reset)).fetch.2)
    (t.icacheOld.map fun o => o.left, t.fetch.2.icacheOld.map fun o => o.left)) = ([1, 1], [1]) := by decide

theorem test_jumps_not_taken : ([(.jmpi 0 8), (.jmpt 1 2 3), (.jmpf 1 3 2), (.ijmpi 0 8), (.ijmpt 1 2 3), (.ijmpf 1 3 2)]
      : List Instr).map (fun i => (after (exec i (small 0 1 0x800 []))).redirects) = [[], [], [], [], [], []] := by decide

theorem test_jumps_taken : ([(.jmpi 1 8), (.jmpt 1 3 2), (.jmpf 1 2 3), (.ijmpi 1 8), (.ijmpt 1 3 2), (.ijmpf 1 2 3)]
      : List Instr).map (fun i => (after (exec i (small 0x40 0x81 0x800 []))).redirects) =
    [[⟨8, 3, false⟩], [⟨0x40, 3, false⟩], [⟨0x81, 3, false⟩], [⟨8, 3, true⟩], [⟨0x40, 3, true⟩], [⟨0x81, 3, true⟩]] := by
  decide

theorem test_special_reads : ([(.cycles 1 4), (.hicycles 1 4), (.curcycles 1 4), (.readdpc 1 4), (.readspc 1 4),
      (.readpcsw 1 4)] : List Instr).map
    (fun i => sent (exec i { small 0 0 0xC00 [] with
      ccSlave := 0x123456789ABCDEF0, ccMaster := 0x1122334455667788, dpc := 5, spc := 6 })) =
    [some (0x9ABCDEF0, 0), some (0x12345678, 0), some (0x55667788, 0), some (5, 0), some (6, 0), some (0xC00, 0)] := by
  decide

theorem test_special_writes : (let s := small 0x600 0xFF00 0x800 []
    ((after (exec (.writedpc 1 2) s)).dpcWrite, (after (exec (.writespc 1 3) s)).spcWrite,
      (after (exec (.writepcsw 1 2 3) s)).pcswWrite, (after (exec .nop s)).results)) =
    (some 0x600, some 0xFF00, some (0x600, 0xFF00), []) := by decide

/-- R539: only the bits of the mask change. -/
theorem test_writepcsw_mask : ((after (exec (.writepcsw 1 2 3) (small 0x600 0xF400 0xA00 []))).updatePcsw 0).pcsw = 0xE00 := by
  decide

/-- R651: with BDCTL = both kinds, address inside, a load and a store at the bounds count; the outside test has them too. -/
theorem test_data_breakpoints : ([0x31, 0x35, 0x3B, 0x3A, 0x11, 0x21] : List Word).map (fun c =>
      (after (exec (.st8 1 3 2) (after (exec (.ld32 1 2 4) { small 0x1000 0x1004 0x800 eight with
        bdctl := c, bdataALow := 0x1000, bdataAHigh := 0x1004, bdataVal := 0x01234567, bdataMask := 0xFFFFFFFF })))).observed.issue.dataBreaks) =
    [2, 2, 1, 1, 1, 1] := by decide

/-- R651, D22: where a store of the instruction makes a load's result free, the value compared is that result. -/
theorem test_data_breakpoint_value : let t := after (exec (.st8 1 2 3) (after (exec (.ld32 1 2 4) (small 0x1000 0 0x800 eight))))
    (t.issue.accesses.filter fun x => !x.store).map (fun x => x.data) = t.results.map fun r => r.value := rfl

/-- R652: an instruction in two blocks that are not in the instruction cache is two misses. -/
theorem test_fetch_misses : ([0x20, 0x21] : List Word).map (fun a => { State.reset with pc := a }.fetch.2.cacheEvents[1]) = [1, 2] := by
  decide

/-! ### Ill-formed operations and instructions are refused, one for each check -/

/-- What reading an instruction with the operation `i` in slot `k` answers. -/
def readOf (k : Nat) (i : Instr) : Option Refusal :=
  match readBundle (encode ((Bundle.nops 32).put k i)) with
  | .error e => some e
  | .ok _ => none

theorem test_refused_modifiers : ([.disp1 64, .disp1 (-65), .disp2 63, .disp2 128, .disp4 254, .disp4 256, .simm 64, .simm (-65),
      .uimm 128, .uimm (-1), .shift 32, .imm32 2147483648, .uimm32 4294967296] : List Modifier).all
    (fun m => !m.ok) = true := by decide

theorem test_accepted_modifiers : ([.none, .disp1 63, .disp1 (-64), .disp2 126, .disp2 (-128), .disp4 252, .disp4 (-256), .simm 63,
      .simm (-64), .uimm 127, .shift 31, .imm32 (-2147483648), .uimm32 4294967295, .addr 1] : List Modifier).all
    Modifier.ok = true := by decide

theorem test_refused_modifier_of_an_operation : (Instr.ild16d 1 3 2 4).modifierOk = false := by decide

/-- A record can hold a shift amount above 31; reading the instruction refuses it. -/
theorem test_refused_shift_amount : readOf 1 (.asli 1 32 2 4) = some .illFormedOperation := by decide

theorem test_refused_destinations : ((Instr.iadd 1 2 3 0).destOk, (Instr.iadd 1 2 3 1).destOk, readOf 1 (.iadd 1 2 3 1)) =
    (false, false, some .illFormedOperation) := by decide

theorem test_refused_source : ((Instr.hIabs 1 2 3 4).sourceOk, readOf 1 (.hIabs 1 2 3 4)) =
    (false, some .illFormedOperation) := by decide

theorem test_refused_slot : (readOf 1 (.ld32 1 2 4), readOf 5 (.ld32 1 2 4)) = (some .illegalSlot, none) := by decide

theorem test_refused_ports : (match readBundle (encode (((Bundle.nops 32).put 4 (.st32 1 2 3)).put 5 (.alloc 1 2))) with
    | .error e => some e
    | .ok _ => none) = some .portConflict := by decide

theorem test_refused_bytes : (match decode [] with | .error e => some e | .ok _ => none) = some .truncated := by decide

theorem test_refused_length : (match decode (encode (Bundle.nops 0)) with | .error e => some e | .ok _ => none) =
    some .noLength := by decide

theorem test_refused_unused_field : ([31 <<< 43 ||| 256, 59, 252, 253, 8 ||| 3 <<< 43] : List Nat).map (decodeTableWord 48) =
    [none, none, none, none, none] := by decide

/-! ### Whole steps: the first instruction after reset, one of each family (latencies by R190) -/

/-- The state after the first step from reset, with the operation record `w` at PC and r2 = `a`, r3 = `b`. -/
def first (w : Nat) (a b : Word) : State := after (step (((State.reset.setReg 2 a).setReg 3 b).withFetchWord 48 w))

theorem test_step_constant : ((first (191 ||| 4 <<< 8 ||| 0xFFFFFFF0 <<< 15) 0 0).reg 4, (first (31 <<< 43) 0 0).pc) =
    (0xFFFFFFF0, 32) := by decide

theorem test_step_integer : ((first (12 ||| 1 <<< 8 ||| 2 <<< 15 ||| 3 <<< 22 ||| 4 <<< 29) 7 8).reg 4,
    (first (15 ||| 1 <<< 8 ||| 2 <<< 15 ||| 3 <<< 22 ||| 4 <<< 29) 8 7).reg 4) = (15, 1) := by decide

theorem test_step_shift : (first (11 ||| 1 <<< 8 ||| 2 <<< 15 ||| 4 <<< 29 ||| 31 <<< 36) 3 0).reg 4 = 0x80000000 := by
  decide

theorem test_step_pack_and_compare : ((first (148 ||| 1 <<< 8 ||| 2 <<< 15 ||| 3 <<< 22 ||| 4 <<< 29) 0 0x80000000).reg 4) = 1 := by
  decide

/-- Latencies 2, 3 and 17: the result is on its way. -/
theorem test_step_latencies : ([70, 22, 108] : List Nat).map
    (fun c => (first (c ||| 1 <<< 8 ||| 2 <<< 15 ||| 3 <<< 22 ||| 4 <<< 29) 0x3F800000 0x3F800000).results.map fun r => (r.dest, r.left)) =
    [[(4, 1)], [(4, 2)], [(4, 16)]] := by decide

theorem test_step_load_and_store :
    ((first (7 ||| 1 <<< 8 ||| 2 <<< 15 ||| 4 <<< 29) 32 0).results.map (fun r => r.left),
      (first (31 ||| 1 <<< 8 ||| 3 <<< 15 ||| 2 <<< 22) 0x2002 0x01020304).pcsw,
      (first (31 ||| 1 <<< 8 ||| 3 <<< 15 ||| 2 <<< 22) 0x2002 0x01020304).readByte 0x2000) = ([2], 0x8800, 0x01) := by decide

theorem test_step_jump : ((first (178 ||| 1 <<< 8 ||| 0x330 <<< 15) 0 0).redirects, (first (178 ||| 1 <<< 8 ||| 0x330 <<< 15) 0 0).pc) =
    ([⟨0x330, 2, false⟩], 32) := by decide

theorem test_step_writepcsw : (first (161 ||| 1 <<< 8 ||| 2 <<< 15 ||| 3 <<< 22) 0x400 0xC00).pcsw = 0x400 := by decide

theorem test_step_refuses : (match step State.reset, step { State.reset with run := .running } with
    | .next t, .refused e => (t.run, e)
    | _, _ => (.running, .twoJumps)) = (.stopped, .noInstruction) := by decide

/-! ### States that meet the hypotheses of the statements, clause by clause, at the ends of the ranges -/

/-- Reset, running, with an image whose first slot holds iadd r2 r3 → r4. -/
def ready : State := ((State.reset.setReg 2 7).setReg 3 8).withFetchWord 48 (12 ||| 1 <<< 8 ||| 2 <<< 15 ||| 3 <<< 22 ||| 4 <<< 29)

/-- An instruction with an operation at each end of its fields' ranges in every slot. -/
def full : Bundle := ⟨.iadd 127 0 127 2, .jmpi 0 0xFFFFFFFF, .jmpf 1 31 127, .st32d 0 (-256) 127 127, .ild16d 127 126 0 3, 0xFFFF⟩

/-- No request, no event. -/
def quiet : CycleInputs := ⟨0, 0, 0⟩

theorem witness_InstructionDecodesAsEncoded : full.wellFormed = true ∧ full.length ≠ 0 := by decide

theorem witness_RecordHasOneSpelling : decodeOp 0x7FFFFFFFFFBF = .ok (.iimm (-1) 127) ∧ decodeOp 0xF80000000000 = .ok .nop := ⟨rfl, rfl⟩

theorem witness_OperationCodesAreTheTables : (0x00000000003B : OpWord).code.toNat = 59 ∧ 215 < (0xFFFFFFFFFFFF : OpWord).code.toNat
    ∧ 215 < (0x0000000000D8 : OpWord).code.toNat := by
  decide

theorem witness_StepRunsDecodedInstruction : ∃ b tail,
    ready.inbox = [] ∧ ready.run = .running ∧ ready.pwrdwn = false ∧ ready.aperturesLegal = true
    ∧ ready.fetchable = true ∧ decode ready.fetch.1 = .ok (b, tail) ∧ b.wellFormed = true :=
  ⟨(Bundle.nops 32).put 1 (.iadd 1 2 3 4), [], rfl, rfl, rfl, by decide, by decide, by rfl, by decide⟩

/-- The same with a cycle token. -/
theorem witness_StepRunsDecodedInstruction_token : ∃ b tail, let s := { ready with inbox := [.cycle quiet, .drain] }
    let u : State := { s with inbox := [.drain] }
    s.inbox = .cycle quiet :: [.drain] ∧ s.run = .running ∧ s.pwrdwn = false ∧ u.aperturesLegal = true
    ∧ u.fetchable = true ∧ decode u.fetch.1 = .ok (b, tail) ∧ b.wellFormed = true :=
  ⟨(Bundle.nops 32).put 1 (.iadd 1 2 3 4), [], rfl, rfl, rfl, by decide, by decide, by rfl, by decide⟩

theorem witness_OperationsIssueInSlotOrder : ∃ t1 t2 t3 t4 t5, let b : Bundle := ⟨.iadd 1 2 3 4, .jmpi 1 8, .nop, .iimm 5 6, .uld8 1 2 5, 32⟩
    exec b.slot1 ready = .next t1 ∧ exec b.slot2 t1 = .next t2 ∧ exec b.slot3 t2 = .next t3 ∧ exec b.slot4 t3 = .next t4
    ∧ exec b.slot5 t4 = .next t5 ∧ t5.twoSpecial = false := ⟨_, _, _, _, _, rfl, rfl, rfl, rfl, rfl, by decide⟩

theorem witness_FetchReadsSdram : [ready, { ready with pc := 0x00FFFFE0 }].all (fun s => s.fetchable
    && (s.fetchCache[iSet s.pc].find (iTag s.pc)).isNone && (s.fetchCache[iSet (s.pc + 31)].find (iTag (s.pc + 31))).isNone) = true := by
  decide

theorem witness_ConstantRegistersAreNoDestinations : ∃ b tail,
    decode (encode ((Bundle.nops 32).put 5 (.iadd 1 2 3 1))) = .ok (b, tail) ∧ (5, Instr.iadd 1 2 3 1) ∈ b.ops
    ∧ (Instr.iadd 1 2 3 1).dest? = some 1 ∧ (Instr.iadd 1 2 3 0).dest? = some 0 :=
  ⟨(Bundle.nops 32).put 5 (.iadd 1 2 3 1), [], by rfl, by decide, rfl, rfl⟩

theorem witness_EveryResetGivesStatedValues : ready.pwrdwn = false ∧ (0x40000000 : Word).extractLsb' 30 2 = 1
    ∧ (0x7FFFFFFF : Word).extractLsb' 30 2 = 1 := by decide

theorem witness_StartCommandRunsFromStartAddress : State.reset.pwrdwn = false ∧ State.reset.run = .stopped
    ∧ (0x80000009 : Word).extractLsb' 30 2 = 2 ∧ (0xBFFFFFFF : Word).extractLsb' 30 2 = 2 := by decide

theorem reset_line_invalid (k : Fin 32) (e : Fin 8) : State.reset.dcache[k].lines[e].valid = false := by
  simp [State.reset, CacheSet.reset, Line.reset]

theorem ready_tags : ready.tagsOk := fun k e _ h => by
  rw [show ready.dcache[k].lines[e].valid = false from reset_line_invalid k e] at h
  cases h

theorem witness_ready_invariant : ready.Inv :=
  ⟨by decide, by decide, by decide, by decide, by decide, by decide, by decide, ready_tags⟩

theorem ready_steps : ∃ t, step ready = .next t ∧ t.run = .running := ⟨_, rfl, by decide⟩

theorem witness_StepKeepsInvariant : ∃ t, ready.Inv ∧ step ready = .next t :=
  ready_steps.elim fun t h => ⟨t, witness_ready_invariant, h.1⟩

theorem witness_AperturesFixedWhileRunning : ∃ t, ready.run ≠ .stopped ∧ t.run ≠ .stopped ∧ step ready = .next t :=
  ready_steps.elim fun t h => ⟨t, by decide, by rw [h.2]; decide, h.1⟩

theorem witness_OperationsLeaveRegistersAtIssue : ∃ t, exec (.iadd 1 2 3 4) ready = .next t := ⟨_, rfl⟩

theorem witness_FalseGuardDoesNothing : (Instr.iadd 0 2 3 4).guard? = some 0 ∧ (ready.reg 0).getLsbD 0 = false
    ∧ (Instr.iadd 0 2 3 4).unit ≠ .ftough ∧ (Instr.iimm 5 127).guard? = none ∧ Instr.nop.guard? = none ∧ (Instr.fdiv 0 2 3 4).guard? = some 0 ∧ (Instr.fdiv 0 2 3 4).unit = .ftough
    ∧ ready.ftoughBusy = 0 := by decide

/-- `n` results due now, to r2, r3, ..., and one that is not. -/
def due (n : Nat) : State :=
  { ready with results := ⟨127, 5, 2⟩ :: (List.range n).map fun k => ⟨BitVec.ofNat 7 (k + 2), BitVec.ofNat 32 k, 1⟩ }

theorem witness_DueResultsAreWritten : ((due 5).dueResults.map fun r => r.dest).Nodup ∧ (due 5).dueResults.length ≤ 5
    ∧ (due 0).dueResults.length ≤ 5 ∧ ∃ r ∈ (due 5).dueResults, r.dest ≠ 0 ∧ r.dest ≠ 1 := by decide

theorem witness_TooManyOrCollidingResults : ((due 6).dueResults.map fun r => r.dest).Nodup ∧ 5 < (due 6).dueResults.length
    ∧ ¬(State.dueResults { ready with results := [⟨2, 5, 1⟩, ⟨3, 5, 0⟩, ⟨2, 5, 1⟩] } |>.map fun r => r.dest).Nodup := by decide

theorem witness_AddReachesItsRegister : (2 : Reg) ≠ 0 ∧ (127 : Reg) ≠ 1 ∧ ready.results = [] ∧ ready.redirects = []
    ∧ ready.scratchOk = true := by decide

theorem witness_HardwareFlagsWinOverWritepcsw : let s := { ready with
      flagUpdates := [⟨0x80000000, 1⟩, ⟨1, 2⟩], pcswWrite := some (0, 0xFFFFFFFF) }
    31 < 32 ∧ (0x80000000 : Word).getLsbD 31 = true ∧ ∃ f ∈ s.flagUpdates, f.left ≤ 1 ∧ f.bits.getLsbD 31 = true := by decide

theorem witness_FlagsAreSticky : ∃ t, { ready with pcsw := 0x80000001, flagUpdates := [⟨2, 1⟩] }.retire quiet 0 32 = .ok t
    ∧ ready.pcswWrite = none ∧ 31 < 32 := ⟨_, rfl, rfl, by decide⟩

theorem witness_SoftwareWriteOfDpcSpcWins : ∃ t, let s := { ready with
      dpcWrite := some 0xFFFFFFFF, spcWrite := some 4, redirects := [⟨8, 0, true⟩] }
    s.retire quiet 0 32 = .ok t ∧ s.dpcWrite = some 0xFFFFFFFF ∧ s.spcWrite = some 4 := ⟨_, rfl, rfl, rfl⟩

theorem witness_CycleCounterCountsStallsWithCs : ∃ t, ready.retire quiet 0 32 = .ok t
    ∧ { ready with inbox := [.stall quiet] }.inbox = .stall quiet :: [] ∧ ready.run = .running ∧ ready.pwrdwn = false
    ∧ ready.pcsw.getLsbD 11 = true ∧ { ready with pcsw := 0 }.pcsw.getLsbD 11 = false :=
  ⟨_, rfl, rfl, rfl, rfl, by decide, by decide⟩

theorem empty_coherent {s : State} (hv : ∀ (k : Fin 32) (e : Fin 8), s.dcache[k].lines[e].valid = false) : s.Coherent := by
  constructor
  · intro k e e' h
    rw [hv] at h
    cases h
  · intro k e h
    rw [hv] at h
    cases h

theorem small_coherent (a b p : Word) (bytes : List Byte) : (small a b p bytes).Coherent := empty_coherent reset_line_invalid

/-- Two copyback buffers of one block and two outstanding fetches, the newest a prefetch. -/
def outstanding : State :=
  { small 7 8 0x800 eight with
    results := [⟨4, 5, 3⟩]
    copyback := [⟨0x41, Vector.replicate 64 2⟩, ⟨0x41, Vector.replicate 64 1⟩]
    fetches := [⟨0x3FBFF, true⟩, ⟨5, false⟩] }

/-- R663: what is outstanding on the bus is finished, the newest buffer of a block last; the core's results stay. -/
theorem test_powerdown_request : (let t := outstanding.powerdownRequest true
    (t.mem.read 0x1040, t.mem.read 0x107F, (t.dFind 0x00FEFFFF).isSome, t.results, t.pwrdwnAck)) =
    (2, 2, true, [⟨4, 5, 3⟩], true) := by decide

theorem witness_PowerdownKeepsTheState_request : outstanding.Coherent ∧ outstanding.memOk = true
    ∧ outstanding.fetches = ⟨blockOf 0x00FEFFFF, true⟩ :: [⟨5, false⟩] ∧ [(⟨5, false⟩ : Fetch)].length ≤ 1
    ∧ outstanding.region (0x00FEFFFF &&& 0xFFFFFFC0) = .dramCached ∧ outstanding.region 0x00FF0000 = .dramUncached
    ∧ outstanding.dFind 0x00FF0000 = none ∧ (∀ c ∈ outstanding.copyback, c.block ≠ blockOf 0x00FF0000)
    ∧ dirtied.dFind 0x1000 = some 0 ∧ dirtied.dcache[dSet 0x1000].lines[(0 : Fin 8)].dirty = true :=
  ⟨empty_coherent reset_line_invalid, by decide, by decide, by decide, by decide, by decide, by decide, by decide, by decide, by decide⟩

theorem witness_PowerdownKeepsTheState : { ready with pwrdwn := true }.pwrdwn = true
    ∧ { ready with run := .sleeping }.pwrdwn = false ∧ { ready with run := .sleeping }.run = .sleeping
    ∧ ready.pcsw.getLsbD 11 = true ∧ { ready with pcsw := 0 }.pcsw.getLsbD 11 = false ∧ mmioArea (0x100000 : BitVec 21).toNat = .core
    ∧ mmioArea (0x101FFF : BitVec 21).toNat = .core := by decide

theorem witness_PowerdownKeepsTheState_write : ∃ t, let s := { ready with run := .sleeping }
    s.environment (.piWrite 0x100828 5) = .ok t ∧ t.run = .running := ⟨_, rfl, rfl⟩

theorem witness_SpecialRegisterReadsAndWrites : ready.guard 1 = true ∧ (0xFFFFFFFF : Word) &&& 0xDFFFDFFF &&& 0x20002000 = 0
    ∧ (0x2000 : Word) &&& 0xFFFFFFFF &&& 0x20002000 ≠ 0 := by decide

theorem witness_RedirectAtTheEndOfAnInstruction :
    let twice := { ready with redirects := [⟨8, 1, false⟩, ⟨16, 1, true⟩] }
    let ends := { ready with redirects := [⟨8, 3, true⟩, ⟨16, 0, false⟩] }
    let decides := { ready with redirects := [⟨8, 3, true⟩, ⟨16, 0, true⟩] }
    let goes := { ready with redirects := [⟨8, 3, true⟩, ⟨16, 1, false⟩] }
    ¬(twice.redirects.map fun r => r.left).Nodup ∧ (ends.redirects.map fun r => r.left).Nodup
    ∧ (∃ r ∈ ends.redirects, r.left = 0 ∧ r.interruptible = false)
    ∧ (decides.redirects.map fun r => r.left).Nodup ∧ (∃ r ∈ decides.redirects, r.left = 0 ∧ r.interruptible = true) ∧ (goes.redirects.map fun r => r.left).Nodup
    ∧ ∀ r ∈ goes.redirects, r.left ≠ 0 := by decide

theorem witness_JumpTakesEffectAfterThreeInstructions : ready.results = [] ∧ ready.redirects = [] ∧ ready.scratchOk = true := by
  decide

/-- Source 31, the last, edge-triggered at level 7, pending and not masked; source 9 level-sensitive at level 0. -/
def requested : State :=
  { ready with
    isetting := (ready.isetting.set 3 0x70000000).set 1 0x00000080
    pend := 0x80000000
    irqLines := 0x200
    imask := 0x80000200 }

theorem witness_InterruptibleJumpDecidesTheEvent : requested.oldPcsw = [] ∧ (∃ q ∈ { requested with oldPcsw := [(0x400, 7)] }.oldPcsw, q.1 = 0x400)
    ∧ exceptionPending { requested with pcsw := 0x80008000 }.pcsw = true ∧ exceptionPending requested.pcsw = false
    ∧ requested.interruptWinner requested.pcsw = some 31 ∧ ready.interruptWinner ready.pcsw = none
    ∧ { requested with imask := 0x200 }.interruptWinner 0x400 = some 9
    ∧ { requested with imask := 0x200 }.interruptWinner 0x800 = none := by decide

theorem witness_ArbitrationPicksHighestLevelLowestNumber : requested.candidate 31 = true ∧ requested.priority 31 = 7
    ∧ requested.candidate 9 = true ∧ requested.priority 9 = 0 ∧ requested.levelSensitive 9 = true := by decide

/-- A timer at its modulus less one, running from the clock or not. -/
theorem witness_TimerCountsToItsModulus : let t : Timer := ⟨5, 4, 1, 0, 0⟩
    t.ctl.getLsbD 0 = true ∧ (t.tick fun _ => 0).2 = true ∧ ({ t with value := 5 }.tick fun _ => 0).2 = false
    ∧ ({ t with modulus := 0, value := 0xFFFFFFFF }.tick fun _ => 0).2 = true ∧ { t with ctl := 0 }.ctl.getLsbD 0 = false
    ∧ ((0x000F1001 : Word).extractLsb' 12 4).toNat = 1 ∧ ((0x00002001 : Word).extractLsb' 12 4).toNat = 2
    ∧ ((0x00001001 : Word).extractLsb' 16 4).toNat = 0 ∧ 12 ∈ [2, 7, 8, 9, 10, 11, 12] := by
  decide

theorem witness_TimerCountsToItsModulus_events : let s := { ready with memEvents := 0xD1, cacheEvents := ready.cacheEvents.set 1 2 }
    s.countsEvent quiet (s.memEvents.extractLsb' 0 4) ∧ ¬s.countsEvent quiet (s.memEvents.extractLsb' 4 4)
    ∧ ready.countsEvent ⟨0, 0, 0x1000⟩ 12 ∧ ¬ready.countsEvent ⟨0, 0, 0xFFFF⟩ 15
    ∧ { s with bdataMask := 1 }.bdataMask ≠ 0 ∧ s.bdctl.getLsbD 1 = false ∧ ∃ t, s.retire quiet 0 32 = .ok t := by
  refine ⟨?_, ?_, ?_, ?_, by decide, by decide, _, rfl⟩ <;> unfold State.countsEvent <;> decide

/-- r2 = `a`, r3 = 0. -/
def at' (a : Word) : State := small a 0 0x800 eight

theorem at'_reg (a : Word) : (at' a).reg 2 = a ∧ (at' a).reg 3 = 0 := ⟨rfl, rfl⟩

/-- Every form of load, store, allocate and prefetch accesses `a` there. -/
theorem at'_forms (a : Word) : (LoadForms 1 2 3 4 0 (at' a) fun _ _ _ x => x = a) ∧ (StoreForms 1 2 2 0 (at' a) fun _ _ x _ => x = a)
    ∧ (AllocForms 1 2 3 0 (at' a) fun _ x => x = a) ∧ PrefetchForms 1 2 3 0 (at' a) fun _ x => x = a := by
  have h2 : (at' a).reg (2#7) = a := rfl
  have h3 : (at' a).reg (3#7) = 0 := rfl
  simp [LoadForms, StoreForms, AllocForms, PrefetchForms, State.addrDisp, State.addrIndex, h2, h3]

/-- The guard, the alignment of the apertures, the canonical form and an instruction in which nothing was done yet. -/
theorem at'_idle (a : Word) : (at' a).guard 1 = true ∧ (at' a).alignedOk = true ∧ (at' a).memOk = true
    ∧ (at' a).issue.accesses = [] ∧ (at' a).issue.stores = [] ∧ (at' a).sleepIn = none := 
  ⟨show State.reset.guard 1 = true by decide, show State.reset.alignedOk = true by decide,
    show (at' 0).memOk = true by decide, rfl, rfl, rfl⟩

/-- The regions of the accesses of each width at `a`. -/
def regions (a : Word) : List Region := [Width.b1, .b2, .b4].map fun n => (at' a).region (align n a)

theorem witness_LoadsDeliverTheBytesOfMemory : ([0x0, 0x1003, 0x00FEFFFF, 0x00FF0000, 0x00FFFFFF] : List Word).map regions =
    [[.dramCached, .dramCached, .dramCached], [.dramCached, .dramCached, .dramCached], [.dramCached, .dramCached, .dramCached],
      [.dramUncached, .dramUncached, .dramUncached], [.dramUncached, .dramUncached, .dramUncached]] := by decide

theorem witness_AccessesOutsideMemory : ([0x01000000, 0x1BFFFFFF, 0x20000000, 0xEFE00000, 0xEFFFFFFF] : List Word).map regions =
    [[.none, .none, .none], [.none, .none, .none], [.none, .none, .none], [.mmio, .mmio, .mmio], [.mmio, .mmio, .mmio]] := by
  decide

theorem witness_ApertureAccessesUseThePiBus : ([0x1C000000, 0x1FFFFFFF] : List Word).map regions =
    [[.apert1, .apert1, .apert1], [.apert1, .apert1, .apert1]] := by decide

theorem witness_WordAccessesReachMmioRegisters : ([0xEFF00000, 0xEFF01FFF, 0xEFF00108] : List Word).map
      (fun a => ((at' a).region (align .b4 a), ((align .b4 a).extractLsb' 0 21).toNat)) =
    [(.mmio, 0x100000), (.mmio, 0x101FFC), (.mmio, 0x100108)] := by decide

theorem witness_WordAccessesReachMmioRegisters_areas :
    ([0xEFE00000, 0xEFE03FFF, 0xEFE0FFFF, 0xEFE10000, 0xEFEFFFFF, 0xEFF02000, 0xEFFFFFFF] : List Word).map (fun a =>
      let off := ((align .b4 a).extractLsb' 0 21).toNat
      ((at' a).region (align .b4 a), off, off / 4 % 512, off / 2048 % 16)) =
    [(.mmio, 0, 0, 0), (.mmio, 0x3FFC, 511, 7), (.mmio, 0xFFFC, 511, 15), (.mmio, 0x10000, 0, 0), (.mmio, 0xFFFFC, 511, 15),
      (.mmio, 0x102000, 0, 4), (.mmio, 0x1FFFFC, 511, 15)]
    ∧ ready.issue.iclr = false ∧ ready.iclrPrev = false ∧ { ready with iclrPrev := true }.iclrPrev = true := by decide

theorem witness_WordAccessesReachMmioRegisters_store : ∃ u, ready.writeMmioReg (mmioReg 0x100000) 0xFFFFFFFF = .ok u
    ∧ 0x100000 ≠ 0x100108 := ⟨_, rfl, by decide⟩

theorem witness_MmioRegistersReadBack : 0x100C64 = 0x100C04 + 0x20 * (3 : Fin 4).val
    ∧ 0x1008FC = 0x100880 + 4 * (31 : Fin 32).val ∧ mmioReg 0x100C0C = .absent ∧ mmioReg 0x101FFC = .absent ∧ 0x100C68 = 0x100C08 + 0x20 * (3 : Fin 4).val
    ∧ ready.dcLockSize.toNat ≤ 0x2000 ∧ 0x4000 < { ready with icLockSize := 0x4040 }.icLockSize.toNat
    ∧ (1 : Word).getLsbD 0 = true := by decide

theorem witness_MmioRegistersReadBack_frame : ∃ t, ready.writeMmioReg (mmioReg 0x101000) 0xFFFFFFFF = .ok t
    ∧ mmioReg 0x101004 ≠ mmioReg 0x101000 ∧ mmioReg 0x100824 ≠ mmioReg 0x101000 ∧ 0x101000 ∉ [0x100820, 0x100824]
    ∧ ∀ j : Fin 4, 0x101000 ≠ 0x100810 + 4 * j.val := ⟨_, rfl, by decide, by decide, by decide, by decide⟩

theorem witness_LoadsLeaveMemoryUnchanged : (small 0x1000 0 0x800 eight).Coherent
    ∧ LoadForms 1 2 3 4 4 (small 0x1000 0 0x800 eight) fun i _ _ _ => ∃ t, exec i (small 0x1000 0 0x800 eight) = .next t := by
  refine ⟨small_coherent .., ?_⟩
  unfold LoadForms
  exact ⟨⟨_, rfl⟩, ⟨_, rfl⟩, ⟨_, rfl⟩, ⟨_, rfl⟩, ⟨_, rfl⟩, ⟨_, rfl⟩, ⟨_, rfl⟩, ⟨_, rfl⟩, ⟨_, rfl⟩, ⟨_, rfl⟩, ⟨_, rfl⟩,
    ⟨_, rfl⟩, ⟨_, rfl⟩, ⟨_, rfl⟩, ⟨_, rfl⟩, ⟨_, rfl⟩, ⟨_, rfl⟩, ⟨_, rfl⟩⟩

/-- With `at'_forms`, `at'_idle`: the stores meet the same conditions as the loads. -/
theorem witness_StoresWriteTheBytesOfMemory (a : Word) : (at' a).memOk = true ∧ (at' a).alignedOk = true
    ∧ (at' a).guard 1 = true ∧ (at' a).issue.accesses = [] := 
  ⟨(at'_idle a).2.2.1, (at'_idle a).2.1, (at'_idle a).1, rfl⟩

theorem witness_StoresLeaveOtherBytes : let s := small 0x1000 5 0x800 eight
    s.Coherent ∧ s.memOk = true ∧ s.alignedOk = true
    ∧ (StoreForms 1 2 3 0 s fun i n a _ => s.region (align n a) ≠ .mmio ∧ ∃ t, exec i s = .next t)
    ∧ ¬inRange .b4 (align .b4 0x1000) 0xFFF ∧ ¬inRange .b4 (align .b4 0x1000) 0x1004 := by
  refine ⟨small_coherent .., by decide, by decide, ?_, by unfold inRange; decide, by unfold inRange; decide⟩
  unfold StoreForms
  exact ⟨⟨by decide, _, rfl⟩, ⟨by decide, _, rfl⟩, ⟨by decide, _, rfl⟩, ⟨by decide, _, rfl⟩, ⟨by decide, _, rfl⟩,
    ⟨by decide, _, rfl⟩, ⟨by decide, _, rfl⟩, ⟨by decide, _, rfl⟩, ⟨by decide, _, rfl⟩⟩

theorem witness_AllocatePutsBlockInCache : (small 0 0 0x800 []).Coherent
    ∧ ([0x0, 0x00FEFFFF, 0x00FF0000, 0xFFFFFFFF] : List Word).map (fun a => (at' a).region a) =
      [.dramCached, .dramCached, .dramUncached, .none] := ⟨small_coherent .., by decide⟩

theorem witness_PrefetchLeavesMemoryUnchanged : (small 0 0 0x800 []).Coherent
    ∧ (dirtied.region 0x103F, (dirtied.dFind 0x103F).isSome, (at' 0).region 0x00FEFFFF, (at' 0).region 0x00FF0000) =
      (.dramCached, true, .dramCached, .dramUncached) := ⟨small_coherent .., by decide⟩

theorem witness_PrefetchLeavesMemoryUnchanged_done : let s := { small 0 0 0x800 [] with fetches := [⟨5, false⟩, ⟨0x3FBFF, true⟩] }
    s.pwrdwn = false ∧ s.fetches = [⟨5, false⟩] ++ [⟨blockOf 0x00FEFFFF, true⟩] ∧ s.Coherent
    ∧ s.region (0x00FEFFFF &&& 0xFFFFFFC0) = .dramCached := ⟨rfl, rfl, small_coherent 0 0 0x800 [], by decide⟩

theorem witness_CopyBackReachesSdram : let s := dirtied
    s.guard 1 = true ∧ s.memOk = true ∧ s.dFind (s.addrDisp 2 0) = some 0 ∧ s.dFind (s.addrDisp 2 64) = none
    ∧ s.dcache[dSet (s.addrDisp 2 0)].lines[0].dirty = true ∧ s.region 0x1000 = .dramCached
    ∧ { s with dramClimit := 0 }.region (s.addrDisp 2 0) = .dramUncached := by decide

theorem witness_InvalidateDropsTheBlock : let s := small 0x1000 0 0x800 eight
    s.guard 1 = true ∧ s.memOk = true ∧ s.tagsOk ∧ s.region 0x103F = .dramCached
    ∧ s.region (s.addrDisp 2 0) = .dramCached ∧ { s with dramClimit := 0 }.region (s.addrDisp 2 0) ≠ .dramCached
    ∧ blockOf 0x103F = blockOf (s.addrDisp 2 0) ∧ blockOf 0x1040 ≠ blockOf (s.addrDisp 2 0) :=
  ⟨by decide, by decide, (small_coherent ..).1, by decide, by decide, by decide, by decide, by decide⟩

/-- A dirty block of the address is in the cache. -/
theorem witness_InvalidateDropsTheBlock_dirty : let s := dirtied
    s.guard 1 = true ∧ s.memOk = true ∧ s.tagsOk ∧ s.region (s.addrDisp 2 0) = .dramCached ∧ s.dFind (s.addrDisp 2 0) = some 0
    ∧ s.dcache[dSet (s.addrDisp 2 0)].lines[(0 : Fin 8)].dirty = true
    ∧ s.mem.read 0x1003 ≠ s.readByte 0x1003 ∧ s.dFind (s.addrDisp 2 0) ≠ some 7 ∧ (31 : Fin 32) ≠ dSet (s.addrDisp 2 0) :=
  ⟨by decide, by decide, by unfold State.tagsOk; decide, by decide, by decide, by decide, by decide, by decide, by decide⟩

/-- R152, R551: the dirty bytes do not reach SDRAM, those of a copyback buffer do. -/
theorem test_dinvalid_no_copyback : (let t := after (exec (.dinvalid 1 0 2) { dirtied with copyback := [⟨0x42, Vector.replicate 64 9⟩] })
    (t.mem.read 0x1000 == dirtied.mem.read 0x1000, t.mem.read 0x1003 == dirtied.mem.read 0x1003, t.mem.read 0x1080)) =
    (true, true, 9) := by decide

theorem witness_TagAndStatusReads : dirtied.guard 1 = true ∧ dirtied.dcache[dSet 0x1000].lines[(0 : Fin 8)].valid = true
    ∧ dirtied.dcache[dSet 0x1000].lines[(7 : Fin 8)].valid = false := by decide

theorem witness_IclrEmptiesTheInstructionCache : let t := { ready.fetch.2 with icacheOld := [⟨ready.fetch.2.icache, 2⟩] }
    ready.guard 1 = true ∧ ready.guard 0 = false ∧ ready.icacheOld = [] ∧ 1 < 2
    ∧ ((t.icacheOld.map fun o => o.cache[iSet ready.pc].find (iTag ready.pc)) = [some 0])
    ∧ ready.fetch.2.icache[iSet (ready.pc + 31)].find (iTag (ready.pc + 31)) = some 0 := by decide

/-- Both sides of the clause on an old cache: sets of no block of the instruction, and a block that is filled. -/
theorem witness_IclrEmptiesTheInstructionCache_old : let s := { ready with icacheOld := [⟨ready.icache, 2⟩], pc := 0xFFFFFFE1 }
    iSet s.pc ≠ iSet (s.pc + 31) ∧ (5 : Fin 64) ≠ iSet s.pc ∧ (5 : Fin 64) ≠ iSet (s.pc + 31)
    ∧ ready.icache[iSet s.pc].find (iTag s.pc) = none := by decide

theorem witness_ExtensionsPackingSelection : (3 : Word).toNat < 4 ∧ 4 ≤ (4 : Word).toNat ∧ 4 ≤ (0xFFFFFFFF : Word).toNat
    ∧ ready.guard 1 = true := by decide

theorem witness_FloatArithmeticCompletes : ready.ftoughBusy = 0 ∧ { ready with ftoughBusy := 16 }.ftoughBusy ≠ 0
    ∧ { ready with ftoughBusy := 1 }.ftoughBusy ≠ 0 := by decide

theorem witness_RoundingChoosesByMode : (roundShift 0 false 3 1).2 = true ∧ 2 * ((roundShift 0 false 3 1).1 * 2 ^ 1) = 2 * 3 + 2 ^ 1
    ∧ 2 * 5 = 2 * ((roundShift 0 true 5 1).1 * 2 ^ 1) + 2 ^ 1 ∧ 0 < 3
    ∧ 3 * 2 ^ ((-150 : Int) + 149).toNat < 2 ^ 23 * 2 ^ (-((-150 : Int) + 149)).toNat := by decide

/-- R362, R364: flushed, exact, overflowing results, and the least that rounds up to 2^-126. -/
theorem test_roundPack : [roundPack 0 true 3 (-140), roundPack 0 true 3 (-152), roundPack 0 false 3 (-100), roundPack 1 true 3 200,
    roundPack 2 false (2 ^ 25 - 1) (-151)] =
    [⟨0, 0x46⟩, ⟨0, 0x06⟩, ⟨0x0E400000, 0⟩, ⟨0xFF7FFFFF, 0x0A⟩, ⟨0x00800000, 0x02⟩] := by decide

theorem witness_FloatSpecialOperands : fpDiv 3 ∈ [fpAdd 3, fpSub 3, fpMul 3, fpDiv 3] ∧ isNaN 0x7F800001 = true
    ∧ isSNaN 0x7F800001 = true ∧ isNaN 0x7FC00000 = true ∧ isSNaN 0x7FC00000 = false ∧ isNaN 0x7F800000 = false
    ∧ isDenorm 0x00000001 = true ∧ isDenorm 0x807FFFFF = true ∧ isDenorm 0x00800000 = false ∧ isInf 0xFF800000 = true :=
  ⟨by simp, by decide, by decide, by decide, by decide, by decide, by decide, by decide, by decide, by decide⟩

theorem witness_FloatComparisonsAgree : isNaN 0x7F800000 = false ∧ isNaN 0x80000000 = false ∧ isNaN 0xFFFFFFFF = true
    ∧ isSNaN 0xFFFFFFFF = false ∧ isSNaN 0x7F800001 = true ∧ isDenorm 0x807FFFFF = true ∧ ready.reg 2 = 7 ∧ ready.reg 3 = 8
    ∧ isDenorm 0x80000000 = false ∧ (0x80000000 : Word).getLsbD 31 = true ∧ (0x7F800000 : Word).getLsbD 31 = false := by decide

theorem witness_ConversionTruncatesAndClips : isNaN 0x7FFFFFFF = true ∧ isNaN 0x4F000000 = false ∧ fExp 0x4F000000 = 158
    ∧ (0x4F000000 : Word) ≠ 0xCF000000 ∧ fExp 0xCEFFFFFF = 157 ∧ fExp 0x00800000 = 1 ∧ (fpToInt 1 0xCEFFFFFF).value.toInt < 0
    ∧ 0 < (fpToInt 1 0x3F800000).value.toInt := by decide

end Sys2Proof.Tests
end

section
/-! SUPPORT. What each operation does at its issue, said once for all 207 of them: it is guarded, or one of iimm, uimm and
nop, or on the ftough unit; and it issues at most one result, for its destination, or one jump. -/
namespace Sys2Proof.Machine

/-- The answer `o` of an operation in `s` whose guard is `g` and whose destination is `d`: whatever it changes `Issued`
describes, and with a false guard it changes nothing (R36). -/
structure UnderGuard (d : Option Reg) (g : Reg) (s : State) (o : Out) : Prop where
  issued : ∀ t, o = .next t → Issued d s t
  skipped : s.guard g = false → o = .next s

theorem guarded_skipped {g : Reg} {s : State} (f : State → Out) (h : s.guard g = false) : guarded g s f = .next s := by
  simp [guarded, h]

theorem issueValue_underGuard (u : FuncUnit) (g d : Reg) (v : Word) (s : State) :
    UnderGuard (some d) g s (issueValue u g d v s) := ⟨fun _ => issueValue_issued, guarded_skipped _⟩

theorem issueFloat_underGuard (u : FuncUnit) (g d : Reg) (r : FpOut) (s : State) :
    UnderGuard (some d) g s (issueFloat u g d r s) := ⟨fun _ => issueFloat_issued, guarded_skipped _⟩

theorem issueLoad_underGuard (n : Width) (sg : Bool) (g : Reg) (a : Word) (d : Reg) (s : State) :
    UnderGuard (some d) g s (issueLoad n sg g a d s) := ⟨fun _ => issueLoad_issued, guarded_skipped _⟩

theorem issueStore_underGuard (n : Width) (g : Reg) (a v : Word) (s : State) :
    UnderGuard none g s (issueStore n g a v s) := ⟨fun _ => issueStore_issued, guarded_skipped _⟩

theorem jump_underGuard (g : Reg) (c i : Bool) (target : Word) (s : State) :
    UnderGuard none g s (jump g c i target s) := ⟨fun _ => jump_issued, guarded_skipped _⟩

theorem selectByte_underGuard (g : Reg) (ext : Byte → Word) (a b : Word) (d : Reg) (s : State) :
    UnderGuard (some d) g s (selectByte g ext a b d s) := ⟨fun _ => selectByte_issued, guarded_skipped _⟩

/-- A guarded operation that ends in a state `u`, which `Quiet` relates to `s`. -/
theorem quiet_underGuard {g : Reg} {f : State → Out} {s u : State} (hf : f s = .next u) (hu : Quiet s u) :
    UnderGuard none g s (guarded g s f) := by
  refine ⟨fun t h => ?_, guarded_skipped _⟩
  rcases guarded_next h with ⟨-, h⟩ | ⟨-, rfl⟩
  · obtain rfl := Host.Outcome.next.inj (hf.symm.trans h)
    exact .quiet hu
  · exact .quiet (.refl _)

theorem tagRead_underGuard (g : Reg) (m : Int) (s1 d : Reg) (s : State) :
    UnderGuard (some d) g s (execRdtag g m s1 d s) := by
  refine ⟨fun t h => ?_, guarded_skipped _⟩
  rcases guarded_next h with ⟨-, h⟩ | ⟨-, rfl⟩
  · cases h
    exact .result _ d _ _ rfl (tagWord_quiet ..) (.refl _)
  · exact .quiet (.refl _)

theorem writePcsw_underGuard (g s1 s2 : Reg) (s : State) : UnderGuard none g s (execWritepcsw g s1 s2 s) := by
  refine ⟨fun t h => ?_, guarded_skipped _⟩
  rcases guarded_next h with ⟨-, h⟩ | ⟨-, rfl⟩
  · unfold writePcsw at h
    split at h
    · cases h
      exact .quiet ⟨by constructor <;> rfl, id, rfl, rfl, id, id⟩
    · cases h
  · exact .quiet (.refl _)

theorem dpcWrite_quiet (s : State) (v : Word) : Quiet s { s with dpcWrite := some v } :=
  ⟨by constructor <;> rfl, id, rfl, rfl, id, id⟩

theorem spcWrite_quiet (s : State) (v : Word) : Quiet s { s with spcWrite := some v } :=
  ⟨by constructor <;> rfl, id, rfl, rfl, id, id⟩

/-- The three forms that the meaning of an operation takes: without a guard, guarded, and guarded on the ftough unit. -/
inductive ExecForm (i : Instr) (s : State) : Prop
  | always {t : State} (hg : i.guard? = none) (hi : Issued i.dest? s t) (h : exec i s = .next t)
  | guarded {g : Reg} (hg : i.guard? = some g) (hu : i.unit ≠ .ftough) (h : UnderGuard i.dest? g s (exec i s))
  | ftough {g : Reg} (f : State → Out) (hg : i.guard? = some g) (hu : i.unit = .ftough) (h : exec i s = onFtough f s)
      (hf : ∀ u, UnderGuard i.dest? g u (f u))

theorem exec_form (i : Instr) (s : State) : ExecForm i s := by
  cases i with
  | asl | asli | asr | asri | bitand | bitandinv | bitinv | bitor | bitxor | borrow | carry | curcycles | cycles |
  dspiabs | dspiadd | dspidualabs | dspidualadd | dspidualmul | dspidualsub | dspimul | dspisub | dspuadd | dspumul |
  dspuquadaddui | dspusub | dualasr | dualiclipi | dualuclipi | funshift1 | funshift2 | funshift3 | hDspiabs |
  hDspidualabs | hIabs | hicycles | iabs | iadd | iaddi | iavgonep | iclipi | ident | ieql | ieqli | ifir16 | ifir8ii
  | ifir8ui | iflip | igeq | igeqi | igtr | igtri | ileq | ileqi | iles | ilesi | imax | imin | imul | imulm | ineg |
  ineq | ineqi | inonzero | isub | isubi | izero | lsl | lsli | lsr | lsri | mergedual16lsb | mergelsb | mergemsb |
  pack16lsb | pack16msb | packbytes | quadavg | quadumax | quadumin | quadumulmsb | rdstatus | readdpc | readpcsw |
  readspc | rol | roli | sex16 | sex8 | uclipi | uclipu | ueql | ueqli | ufir16 | ufir8uu | ugeq | ugeqi | ugtr |
  ugtri | uleq | uleqi | ules | ulesi | ume8ii | ume8uu | umin | umul | umulm | uneq | uneqi | zex16 | zex8 |
  fabsvalflags | faddflags | feqlflags | fgeqflags | fgtrflags | fleqflags | flesflags | fmulflags | fneqflags |
  fsignflags | fsubflags | ifixieeeflags | ifixrzflags | ifloatflags | ifloatrzflags | ufixieeeflags | ufixrzflags |
  ufloatflags | ufloatrzflags =>
    exact .guarded rfl nofun (issueValue_underGuard ..)
  | fabsval | fadd | feql | fgeq | fgtr | fleq | fles | fmul | fneq | fsign | fsub | ifixieee | ifixrz | ifloat |
  ifloatrz | ufixieee | ufixrz | ufloat | ufloatrz =>
    exact .guarded rfl nofun (issueFloat_underGuard ..)
  | fdiv g s1 s2 d =>
    exact .ftough (fun s => issueFloat .ftough g d (fpDiv (ieeeMode s.pcsw) (s.reg s1) (s.reg s2)) s) rfl rfl rfl
      fun _ => issueFloat_underGuard ..
  | fdivflags g s1 s2 d =>
    exact .ftough (fun s => issueFloatFlags .ftough g d (fpDiv (ieeeMode s.pcsw) (s.reg s1) (s.reg s2)) s) rfl rfl rfl
      fun _ => issueValue_underGuard ..
  | fsqrt g s1 d =>
    exact .ftough (fun s => issueFloat .ftough g d (fpSqrt (ieeeMode s.pcsw) (s.reg s1)) s) rfl rfl rfl
      fun _ => issueFloat_underGuard ..
  | fsqrtflags g s1 d =>
    exact .ftough (fun s => issueFloatFlags .ftough g d (fpSqrt (ieeeMode s.pcsw) (s.reg s1)) s) rfl rfl rfl
      fun _ => issueValue_underGuard ..
  | ild16 | ild16d | ild16r | ild16x | ild8 | ild8d | ild8r | ld32 | ld32d | ld32r | ld32x | uld16 | uld16d | uld16r |
  uld16x | uld8 | uld8d | uld8r =>
    exact .guarded rfl nofun (issueLoad_underGuard ..)
  | hSt16d | hSt32d | hSt8d | st16 | st16d | st32 | st32d | st8 | st8d =>
    exact .guarded rfl nofun (issueStore_underGuard ..)
  | ijmpf | ijmpi | ijmpt | jmpf | jmpi | jmpt =>
    exact .guarded rfl nofun (jump_underGuard ..)
  | ibytesel | ubytesel =>
    exact .guarded rfl nofun (selectByte_underGuard ..)
  | alloc | allocd | allocr | allocx =>
    exact .guarded rfl nofun (by delta exec; exact quiet_underGuard (by rfl) (allocBlock_quiet ..))
  | pref | pref16x | pref32x | prefd | prefr =>
    exact .guarded rfl nofun (by delta exec; exact quiet_underGuard (by rfl) (prefetchBlock_quiet ..))
  | dcb => exact .guarded rfl nofun (by delta exec; exact quiet_underGuard (by rfl) (copyBackBlock_quiet ..))
  | dinvalid => exact .guarded rfl nofun (by delta exec; exact quiet_underGuard (by rfl) (invalidateBlock_quiet ..))
  | iclr => exact .guarded rfl nofun (by delta exec; exact quiet_underGuard (by rfl) (clearICache_quiet _))
  | rdtag => exact .guarded rfl nofun (tagRead_underGuard ..)
  | writedpc => exact .guarded rfl nofun (by delta exec; exact quiet_underGuard (by rfl) (dpcWrite_quiet ..))
  | writespc => exact .guarded rfl nofun (by delta exec; exact quiet_underGuard (by rfl) (spcWrite_quiet ..))
  | writepcsw => exact .guarded rfl nofun (writePcsw_underGuard ..)
  | iimm | uimm => exact .always rfl (.result s _ _ _ rfl (.refl s) (.refl _)) rfl
  | nop => exact .always rfl (.quiet (.refl s)) rfl

/-- The ftough unit's recovery is nothing that `Quiet` looks at. -/
theorem ftoughBusy_quiet (s : State) (n : Nat) : Quiet s { s with ftoughBusy := n } :=
  ⟨by constructor <;> rfl, id, rfl, rfl, id, id⟩

/-- What any operation can do at its issue: after at most an occupation of the ftough unit, at most one result for its
destination or one jump is new. -/
theorem exec_issued {i : Instr} {s t : State} (h : exec i s = .next t) : ∃ u, Quiet s u ∧ Issued i.dest? u t := by
  cases exec_form i s with
  | always _ hi he =>
    obtain rfl := Host.Outcome.next.inj (he.symm.trans h)
    exact ⟨s, .refl s, hi⟩
  | guarded _ _ hu => exact ⟨s, .refl s, hu.issued t h⟩
  | ftough f _ _ he hf =>
    exact ⟨_, ftoughBusy_quiet s _, onFtough_issued (he.symm.trans h) fun u hu => (hf u).issued t hu⟩

theorem Issued.sameCore {d : Option Reg} {s t : State} (h : Issued d s t) : s.SameCore t := by
  cases h with
  | quiet h => exact h.core
  | result u r v lat _ h ht => exact (h.core.trans (issueResult_core ..)).trans ht.core
  | jump _ _ ht => subst ht; constructor <;> rfl

/-- Settles O13: every operation issues by `exec_issued`, and neither a result nor a jump on its way is in the core. -/
theorem operationsLeaveRegistersAtIssue : Obligations.OperationsLeaveRegistersAtIssue := by
  intro i s t h
  obtain ⟨u, hq, hi⟩ := exec_issued h
  exact hq.core.trans hi.sameCore

/-- An operation without a guard is one of three. -/
theorem guard_none_iff (i : Instr) :
    i.guard? = none ↔ (∃ m d, i = .iimm m d) ∨ (∃ m d, i = .uimm m d) ∨ i = .nop := by
  constructor
  · intro h
    cases i with
    | iimm m d => exact .inl ⟨m, d, rfl⟩
    | uimm m d => exact .inr (.inl ⟨m, d, rfl⟩)
    | nop => exact .inr (.inr rfl)
    | _ => cases h
  · rintro (⟨m, d, rfl⟩ | ⟨m, d, rfl⟩ | rfl) <;> rfl

/-- Settles O14: by the form of the operation, where the unguarded ones have no guard to be false. -/
theorem falseGuardDoesNothing : Obligations.FalseGuardDoesNothing := by
  refine ⟨fun i g s hg hfalse => ?_, guard_none_iff⟩
  cases exec_form i s with
  | always hn => rw [hn] at hg; cases hg
  | guarded hg' hu h =>
    obtain rfl := Option.some.inj (hg'.symm.trans hg)
    exact ⟨fun _ => h.skipped hfalse, fun hf => absurd hf hu⟩
  | ftough f hg' hu h hf =>
    obtain rfl := Option.some.inj (hg'.symm.trans hg)
    refine ⟨fun hn => absurd hu hn, fun _ hb => ?_⟩
    rw [h, onFtough, if_pos hb]
    exact (hf _).skipped hfalse

/-! ### The issue of an instruction -/

/-- A list of operations is issued one after the other: the last one's answer is the list's. -/
theorem issueOps_cons_next {i : Instr} {s t : State} (is : List Instr) (h : exec i s = .next t) :
    issueOps (i :: is) s = issueOps is t := by
  simp only [issueOps, h]

theorem issueBundle_of_order {b : Bundle} {s t u : State} (h3 : issueOps [b.slot1, b.slot2, b.slot3] s = .next t)
    (h5 : issueOps [b.slot4, b.slot5] t = .next u) (h : u.twoSpecial = false) : issueBundle b s = .next u := by
  simp [issueBundle, h3, h5, h]

/-- Settles O5: without two special accesses the slots are issued in their order, and no operation changes the core. -/
theorem operationsIssueInSlotOrder : Obligations.OperationsIssueInSlotOrder := by
  intro b s t1 t2 t3 t4 t5 h1 h2 h3 h4 h5 hs
  refine ⟨issueBundle_of_order (t := t3) ?_ ?_ hs, ?_⟩
  · rw [issueOps_cons_next _ h1, issueOps_cons_next _ h2, issueOps_cons_next _ h3]
    rfl
  · rw [issueOps_cons_next _ h4, issueOps_cons_next _ h5]
    rfl
  · have keep := operationsLeaveRegistersAtIssue
    exact ((((keep _ _ _ h1).trans (keep _ _ _ h2)).trans (keep _ _ _ h3)).trans (keep _ _ _ h4)).trans (keep _ _ _ h5)

end Sys2Proof.Machine
end

section
/-! SUPPORT. The end of an instruction: what a clock cycle, the write-back, the update of PCSW and the jumps change, each
said once, and from these what `State.retire` does as a whole; with the statements about write-back and PCSW. -/
namespace Sys2Proof.Machine

/-! ### A clock cycle -/

theorem leadingEdge_frame (s : State) (n : Fin 32) : ∃ pend, s.leadingEdge n = { s with pend := pend } := by
  unfold State.leadingEdge
  split
  · exact ⟨s.pend, rfl⟩
  · exact ⟨_, rfl⟩

theorem timerPulse_frame (s : State) (k : Fin 4) :
    ∃ pend timers n, s.timerPulse k = { s with pend := pend, timers := timers, freeCount := n } := by
  unfold State.timerPulse
  obtain ⟨pend, h⟩ := leadingEdge_frame
    { s.drawn with timers := s.timers.set k { s.timers[k] with pulse := 1 + Config.freeNat s.freeCount } } (timerSource k)
  exact ⟨pend, _, _, h⟩

theorem tickTimer_frame (s : State) (events : Nat → Nat) (k : Fin 4) :
    ∃ pend timers n, s.tickTimer events k = { s with pend := pend, timers := timers, freeCount := n } := by
  unfold State.tickTimer
  dsimp only
  split
  · obtain ⟨pend, timers, n, h⟩ := timerPulse_frame { s with timers := s.timers.set k (s.timers[k].tick events).1 } k
    exact ⟨pend, timers, n, h⟩
  · exact ⟨s.pend, _, s.freeCount, rfl⟩

theorem tickTimers_frame (s : State) (events : Nat → Nat) :
    ∃ pend timers n, s.tickTimers events = { s with pend := pend, timers := timers, freeCount := n } := by
  unfold State.tickTimers
  obtain ⟨_, _, _, h0⟩ := tickTimer_frame s events 0
  rw [h0]
  obtain ⟨_, _, _, h1⟩ := tickTimer_frame _ events 1
  rw [h1]
  obtain ⟨_, _, _, h2⟩ := tickTimer_frame _ events 2
  rw [h2]
  obtain ⟨pend, timers, n, h3⟩ := tickTimer_frame _ events 3
  exact ⟨pend, timers, n, h3⟩

/-- What a clock cycle changes: CCCOUNT, the timers, the request lines and pending flags, and the events it counts. -/
theorem clockCycle_frame (s : State) (i : CycleInputs) (brk count : Bool) :
    ∃ pend timers n, s.clockCycle i brk count = { s with
      ccMaster := if count then s.ccMaster + 1 else s.ccMaster
      timers := timers
      irqLines := i.irq
      pend := pend
      issue := { s.issue with dataBreaks := 0 }
      cacheEvents := mapEach (fun n => n - 1) s.cacheEvents
      freeCount := n } := by
  unfold State.clockCycle
  dsimp only
  obtain ⟨_, _, _, h⟩ := tickTimers_frame { s with
    ccMaster := if count then s.ccMaster + 1 else s.ccMaster
    issue := { s.issue with dataBreaks := 0 }
    cacheEvents := mapEach (fun n => n - 1) s.cacheEvents } (s.sourceEvents i brk)
  rw [h]
  exact ⟨_, _, _, rfl⟩

/-! ### Write-back (R32, R34, R35) -/

theorem distinct_iff (xs : List Nat) : distinct xs = true ↔ xs.Nodup := by
  induction xs with
  | nil => simp [distinct]
  | cons x xs ih => simp [distinct, ih]

/-- The register numbers are distinct where the registers are. -/
theorem distinct_dests_iff (rs : List Result) :
    distinct (rs.map fun r => r.dest.toNat) = true ↔ (rs.map fun r => r.dest).Nodup := by
  have h : (rs.map fun r => r.dest.toNat) = (rs.map fun r => r.dest).map BitVec.toNat := by simp
  rw [distinct_iff, h, List.nodup_map_iff fun _ _ => BitVec.eq_of_toNat_eq]

theorem setReg_frame (s : State) (r : Reg) (v : Word) : ∃ regs, s.setReg r v = { s with regs := regs } := by
  unfold State.setReg
  split
  · exact ⟨s.regs, rfl⟩
  split
  · exact ⟨s.regs, rfl⟩
  · exact ⟨_, rfl⟩

theorem setReg_regs_congr {s t : State} (h : t.regs = s.regs) (r : Reg) (v : Word) :
    (t.setReg r v).regs = (s.setReg r v).regs := by
  unfold State.setReg
  split_ifs
  · exact h
  · exact h
  · simp [h]

/-- Only the register file is written, and what is written depends on the registers and the results alone. -/
theorem writeResults_eq {s t : State} (h : t.regs = s.regs) (rs : List Result) :
    t.writeResults rs = { t with regs := (s.writeResults rs).regs } := by
  induction rs generalizing s t with
  | nil => rw [State.writeResults, State.writeResults, ← h]
  | cons r rs ih =>
    obtain ⟨_, hr⟩ := setReg_frame t r.dest r.value
    rw [State.writeResults, State.writeResults, ih (setReg_regs_congr h r.dest r.value), hr]

theorem reg_writeResults_other (s : State) (rs : List Result) (q : Reg) (h : ∀ r ∈ rs, r.dest ≠ q) :
    (s.writeResults rs).reg q = s.reg q := by
  induction rs generalizing s with
  | nil => rfl
  | cons r rs ih =>
    simp only [List.mem_cons, forall_eq_or_imp] at h
    rw [State.writeResults, ih _ h.2, reg_setReg_other _ _ _ _ h.1.symm]

theorem reg_writeResults_mem (s : State) (rs : List Result) (hn : (rs.map fun r => r.dest).Nodup) {r : Result}
    (hr : r ∈ rs) (h0 : r.dest ≠ 0) (h1 : r.dest ≠ 1) : (s.writeResults rs).reg r.dest = r.value := by
  induction rs generalizing s with
  | nil => cases hr
  | cons p rs ih =>
    simp only [List.map_cons, List.nodup_cons, List.mem_map, not_exists, not_and] at hn
    rcases List.mem_cons.1 hr with rfl | hr
    · rw [State.writeResults, reg_writeResults_other _ _ _ hn.1, reg_setReg_same _ _ _ h0 h1]
    · exact ih _ hn.2 hr

/-- Each free choice drops one of the results. -/
theorem dropFree_sublist (free k : Nat) (rs : List Result) : (dropFree free k rs).Sublist rs := by
  induction k generalizing free rs with
  | zero => exact .refl rs
  | succ k ih => exact (ih ..).trans (List.eraseIdx_sublist ..)

theorem dropFree_length (free k : Nat) (rs : List Result) (h : k ≤ rs.length) :
    (dropFree free k rs).length = rs.length - k := by
  induction k generalizing free rs with
  | zero => rfl
  | succ k ih =>
    have hlt : Config.freeNat free % rs.length < rs.length := Nat.mod_lt _ (by omega)
    rw [dropFree, ih _ _ (by rw [List.length_eraseIdx_of_lt hlt]; omega), List.length_eraseIdx_of_lt hlt]
    omega

theorem writeBack_collision {s : State} (h : ¬(s.dueResults.map fun r => r.dest).Nodup) :
    s.writeBack = .error .writeCollision := by
  unfold State.writeBack
  rw [← distinct_dests_iff] at h
  simp [h]

theorem writeBack_within {s : State} (h : (s.dueResults.map fun r => r.dest).Nodup) (hl : s.dueResults.length ≤ 5) :
    s.writeBack =
      .ok ({ s with results := laterResults s.results, regs := (s.writeResults s.dueResults).regs }, 0) := by
  unfold State.writeBack
  rw [← distinct_dests_iff] at h
  simp [h, Config.writeBackLimit, hl, writeResults_eq (s := s) (t := { s with results := laterResults s.results }) rfl]

/-- With more than five results due, some are dropped and WBE is set (R34, U2). -/
theorem writeBack_beyond {s : State} (h : (s.dueResults.map fun r => r.dest).Nodup) (hl : 5 < s.dueResults.length) :
    s.writeBack = .ok ({ s with
      results := laterResults s.results
      freeCount := s.freeCount + (s.dueResults.length - 5)
      regs := (s.writeResults (dropFree s.freeCount (s.dueResults.length - 5) s.dueResults)).regs }, flagWBE) := by
  unfold State.writeBack
  rw [← distinct_dests_iff] at h
  have hx : s.dueResults.length - 5 ≠ 0 := by omega
  simp only [h, Config.writeBackLimit, hx, if_true, if_false]
  exact congrArg (fun t => Except.ok (t, flagWBE)) (writeResults_eq (by rfl) _)

theorem writeBack_ok {s : State} (h : (s.dueResults.map fun r => r.dest).Nodup) : ∃ p, s.writeBack = .ok p := by
  by_cases hl : s.dueResults.length ≤ 5
  · exact ⟨_, writeBack_within h hl⟩
  · exact ⟨_, writeBack_beyond h (by omega)⟩

/-- What a write-back that is not refused does: the kept ones of the due results reach the registers, `u`'s being those
of `s`. -/
theorem writeBack_next {s t : State} {hw : Word} {u : State} (h : s.writeBack = .ok (t, hw)) (hu : s.regs = u.regs) :
    ∃ kept n, kept.Sublist s.dueResults ∧ (s.dueResults.length ≤ 5 → kept = s.dueResults)
      ∧ (hw = 0 ∨ hw = flagWBE ∧ 5 < s.dueResults.length)
      ∧ t = { s with results := laterResults s.results, freeCount := n, regs := (u.writeResults kept).regs } := by
  by_cases hn : (s.dueResults.map fun r => r.dest).Nodup
  swap
  · rw [writeBack_collision hn] at h
    cases h
  by_cases hl : s.dueResults.length ≤ 5
  · rw [writeBack_within hn hl, writeResults_eq hu] at h
    cases h
    exact ⟨_, _, .refl _, fun _ => rfl, .inl rfl, rfl⟩
  · rw [writeBack_beyond hn (by omega), writeResults_eq hu] at h
    cases h
    exact ⟨_, _, dropFree_sublist .., fun h => absurd h hl, .inr ⟨rfl, by omega⟩, rfl⟩

/-- Settles O15: all due results are written, by `writeBack_within`. -/
theorem dueResultsAreWritten : Obligations.DueResultsAreWritten := by
  intro s hn hl
  refine ⟨_, writeBack_within hn hl, fun r hr h0 h1 => ?_, fun q hq => ?_, rfl⟩
  · exact (reg_congr (s := s.writeResults s.dueResults) rfl _).trans (reg_writeResults_mem _ _ hn hr h0 h1)
  · exact (reg_congr (s := s.writeResults s.dueResults) rfl _).trans (reg_writeResults_other _ _ _ hq)

/-- Settles O16: by `writeBack_beyond` with what `dropFree` keeps, and `writeBack_collision`. -/
theorem tooManyOrCollidingResults : Obligations.TooManyOrCollidingResults := by
  intro s
  refine ⟨fun hn hl => ⟨_, _, writeBack_beyond hn hl, dropFree_sublist .., ?_, rfl⟩, writeBack_collision⟩
  rw [dropFree_length _ _ _ (Nat.sub_le ..)]
  omega

/-! ### PCSW (R42, R45, R365, R539) -/

theorem dueFlags_bit (fs : List FlagUpdate) (j : Nat) :
    (dueFlags fs).getLsbD j = true ↔ ∃ f ∈ fs, f.left ≤ 1 ∧ f.bits.getLsbD j = true := by
  have h : ∀ w : Word, (fs.foldl (fun w f => if f.left ≤ 1 then w ||| f.bits else w) w).getLsbD j = true ↔
      w.getLsbD j = true ∨ ∃ f ∈ fs, f.left ≤ 1 ∧ f.bits.getLsbD j = true := by
    induction fs with
    | nil => simp
    | cons f fs ih =>
      intro w
      rw [List.foldl_cons, ih]
      by_cases hf : f.left ≤ 1 <;> simp [hf, or_assoc]
  rw [dueFlags, h 0]
  simp

theorem maskedWrite_bit (p v m : Word) (j : Nat) (hj : j < 32) :
    (maskedWrite p v m).getLsbD j = if m.getLsbD j then v.getLsbD j else p.getLsbD j := by
  simp only [maskedWrite, BitVec.getLsbD_or, BitVec.getLsbD_and, BitVec.getLsbD_not, hj, decide_true, Bool.true_and]
  cases m.getLsbD j <;> simp

/-- PCSW as the software alone would leave it (R539). -/
def State.softPcsw (s : State) : Word :=
  match s.pcswWrite with
  | some (v, m) => maskedWrite s.pcsw v m
  | none => s.pcsw

theorem updatePcsw_pcsw (s : State) (hw : Word) :
    (s.updatePcsw hw).pcsw = s.softPcsw ||| (hw ||| dueFlags s.flagUpdates) := rfl

theorem updatePcsw_bit (s : State) (hw : Word) (j : Nat) :
    (s.updatePcsw hw).pcsw.getLsbD j = true ↔ hw.getLsbD j = true
      ∨ (∃ f ∈ s.flagUpdates, f.left ≤ 1 ∧ f.bits.getLsbD j = true) ∨ s.softPcsw.getLsbD j = true := by
  rw [updatePcsw_pcsw, BitVec.getLsbD_or, BitVec.getLsbD_or, Bool.or_eq_true, Bool.or_eq_true, dueFlags_bit,
    or_comm, or_assoc]

theorem updatePcsw_frame (s : State) (hw : Word) : ∃ old, s.updatePcsw hw = { s with
    pcsw := s.softPcsw ||| (hw ||| dueFlags s.flagUpdates)
    flagUpdates := laterFlags s.flagUpdates
    pcswWrite := none
    oldPcsw := old } := ⟨_, rfl⟩

/-- Settles O18: bit by bit, by `updatePcsw_bit` and `maskedWrite_bit`. -/
theorem hardwareFlagsWinOverWritepcsw : Obligations.HardwareFlagsWinOverWritepcsw := by
  intro s hw j hj
  rw [updatePcsw_bit, State.softPcsw]
  cases h : s.pcswWrite with
  | none => rfl
  | some p => simp only [maskedWrite_bit _ _ _ j hj]

/-! ### Jumps (R510, R512, R513) -/

theorem decisionPcsw_frame (s : State) : ∃ n, s.decisionPcsw.2 = { s with freeCount := n } := by
  unfold State.decisionPcsw
  split
  · exact ⟨s.freeCount, rfl⟩
  · exact ⟨_, rfl⟩

theorem dispatched_frame (s : State) (n : Fin 32) : ∃ pend, s.dispatched n = { s with pend := pend } := by
  unfold State.dispatched
  split
  · exact ⟨s.pend, rfl⟩
  · exact ⟨_, rfl⟩

/-- What the end of a jump's delay changes, whether an event is taken or not. -/
theorem completeJump_frame (s : State) (r : Redirect) : ∃ pc dpc spc cc pend n, s.completeJump r =
    { s with pc := pc, dpc := dpc, spc := spc, ccSlave := cc, pend := pend, freeCount := n } := by
  unfold State.completeJump
  split
  · unfold State.completeInterruptible
    obtain ⟨m, hd⟩ := decisionPcsw_frame s
    dsimp only
    rw [hd]
    split
    · exact ⟨_, _, _, _, _, _, rfl⟩
    · split
      · next n _ =>
        obtain ⟨_, hp⟩ := dispatched_frame { s with freeCount := m } n
        rw [State.enterInterrupt, hp]
        exact ⟨_, _, _, _, _, _, rfl⟩
      · exact ⟨_, _, _, _, _, _, rfl⟩
  · exact ⟨_, _, _, _, _, _, rfl⟩

/-- What the jumps at the end of an instruction change, where they are not refused. -/
theorem redirect_next {s t : State} {len : BitVec 16} (h : s.redirect len = .ok t) :
    (s.redirects.map fun r => r.left).Nodup ∧
    ((∀ r ∈ s.redirects, r.left ≠ 0) → t.pc = s.pc + len.setWidth 32) ∧
    ∃ pc dpc spc cc pend n, t = { s with
      redirects := laterRedirects s.redirects
      pc := pc, dpc := dpc, spc := spc, ccSlave := cc, pend := pend, freeCount := n } := by
  unfold State.redirect at h
  dsimp only at h
  split at h
  swap
  · cases h
  next hd =>
  refine ⟨(distinct_iff _).1 hd, ?_⟩
  split at h
  · next r hr =>
    cases h
    have hr' := List.find?_some hr
    refine ⟨fun hn => absurd (of_decide_eq_true hr') (hn r (List.mem_of_find?_eq_some hr)), ?_⟩
    obtain ⟨pc, dpc, spc, cc, pend, n, hj⟩ := completeJump_frame { s with redirects := laterRedirects s.redirects } r
    exact ⟨pc, dpc, spc, cc, pend, n, hj⟩
  · cases h
    exact ⟨fun _ => rfl, _, _, _, _, _, _, rfl⟩

theorem redirect_ok {s : State} (h : (s.redirects.map fun r => r.left).Nodup) (len : BitVec 16) :
    ∃ t, s.redirect len = .ok t := by
  unfold State.redirect
  rw [← distinct_iff] at h
  simp only [h, if_true]
  split <;> exact ⟨_, rfl⟩

/-! ### The end of an instruction -/

/-- What the end of an instruction (R31, R32, R45, R48, R510) makes of the state `s` with the inputs `i`: the results
`kept` of the due ones reach the registers, and the hardware sets the PCSW bits `hw` beside the flags that are due. -/
structure Ended (s t : State) (i : CycleInputs) (len : BitVec 16) (kept : List Result) (hw : Word) : Prop where
  kept_due : kept.Sublist s.dueResults
  kept_all : s.dueResults.length ≤ 5 → kept = s.dueResults
  error : hw = 0 ∨ hw = flagWBE ∧ 5 < s.dueResults.length
  oneJump : (s.redirects.map fun r => r.left).Nodup
  nextPc : (∀ r ∈ s.redirects, r.left ≠ 0) → t.pc = s.pc + len.setWidth 32
  frame : t = { s with
    regs := (s.writeResults kept).regs
    pc := t.pc
    pcsw := (s.updatePcsw hw).pcsw
    dpc := s.dpcWrite.getD t.dpc
    spc := s.spcWrite.getD t.spc
    ccMaster := s.ccMaster + 1
    ccSlave := t.ccSlave
    results := laterResults s.results
    flagUpdates := laterFlags s.flagUpdates
    pcswWrite := none
    dpcWrite := none
    spcWrite := none
    oldPcsw := t.oldPcsw
    redirects := laterRedirects s.redirects
    ftoughBusy := s.ftoughBusy - 1
    issue := IssueLog.empty
    iclrPrev := s.issue.iclr
    cacheEvents := mapEach (fun n => n - 1) s.cacheEvents
    pend := t.pend
    irqLines := i.irq
    timers := t.timers
    run := t.run
    sleepIn := t.sleepIn
    freeCount := t.freeCount }
  run : t.run = .sleeping ∨ t.run = s.run

/-- The clock cycle of an instruction, after the data breakpoint logic has observed its accesses. -/
theorem observed_clockCycle_frame (s : State) (i : CycleInputs) (brk : Bool) :
    ∃ pend timers n, s.observed.clockCycle i brk true = { s with
      ccMaster := s.ccMaster + 1
      timers := timers
      irqLines := i.irq
      pend := pend
      issue := { s.issue with dataBreaks := 0 }
      cacheEvents := mapEach (fun n => n - 1) s.cacheEvents
      freeCount := n } := by
  obtain ⟨pend, timers, n, h⟩ := clockCycle_frame s.observed i brk true
  rw [observed_spec] at h
  rw [observed_spec]
  exact ⟨pend, timers, n, h⟩

theorem getD_self (o : Option Word) (w : Word) : o.getD (o.getD w) = o.getD w := by
  cases o <;> rfl

theorem advance_run (s : State) : s.advance.run = .sleeping ∨ s.advance.run = s.run := by
  unfold State.advance
  dsimp only
  split
  · exact .inl rfl
  · exact .inr rfl

theorem retire_next {s t : State} {i : CycleInputs} {a : Word} {len : BitVec 16} (h : s.retire i a len = .ok t) :
    ∃ kept hw, Ended s t i len kept hw := by
  unfold State.retire at h
  obtain ⟨pend, timers, n, hc⟩ := observed_clockCycle_frame s i (s.instBreak a)
  rw [hc] at h
  split at h
  · cases h
  next s1 hw hb =>
  obtain ⟨kept, m, hsub, hall, herr, rfl⟩ := writeBack_next (u := s) hb rfl
  split at h
  · cases h
  next s2 hr =>
  obtain ⟨old, hu⟩ := updatePcsw_frame _ hw
  rw [hu] at hr
  obtain ⟨hone, hnext, pc, dpc, spc, cc, pend', n', rfl⟩ := redirect_next hr
  cases h
  refine ⟨kept, hw, hsub, hall, herr, hone, hnext, ?_, ?_⟩
  · simp only [State.advance, State.writeSpecials, getD_self]
    rfl
  · exact advance_run _

/-- The end of an instruction is refused for nothing but two results for one register or two jumps of one distance. -/
theorem retire_ok {s : State} (hd : (s.dueResults.map fun r => r.dest).Nodup)
    (hj : (s.redirects.map fun r => r.left).Nodup) (i : CycleInputs) (a : Word) (len : BitVec 16) :
    ∃ t, s.retire i a len = .ok t := by
  obtain ⟨pend, timers, n, hc⟩ := observed_clockCycle_frame s i (s.instBreak a)
  obtain ⟨⟨s1, hw⟩, hb⟩ := writeBack_ok (s := s.observed.clockCycle i (s.instBreak a) true) (by rw [hc]; exact hd)
  have hj1 : ((s1.updatePcsw hw).redirects.map fun r => r.left).Nodup := by
    obtain ⟨kept, m, -, -, -, rfl⟩ := writeBack_next hb rfl
    rw [hc]
    exact hj
  obtain ⟨t, ht⟩ := redirect_ok hj1 len
  simp only [State.retire, hb, ht]
  exact ⟨_, rfl⟩

/-- Settles O19: PCSW after the end of an instruction is what `State.updatePcsw` makes of it. -/
theorem flagsAreSticky : Obligations.FlagsAreSticky := by
  intro s t inp a len j _ h hsoft
  obtain ⟨kept, hw, he⟩ := retire_next h
  rw [show t.pcsw = (s.updatePcsw hw).pcsw from (congrArg State.pcsw he.frame :), updatePcsw_bit, State.softPcsw, hsoft]
  refine ⟨fun hs => .inr (.inr hs), ?_⟩
  rintro (hb | hf | hs)
  · rcases he.error with rfl | ⟨rfl, hl⟩
    · simp at hb
    · exact .inr (.inr ⟨hb, hl⟩)
  · exact .inr (.inl hf)
  · exact .inl hs

/-- Settles O20: the software writes come last. -/
theorem softwareWriteOfDpcSpcWins : Obligations.SoftwareWriteOfDpcSpcWins := by
  intro s t inp a v len h
  obtain ⟨kept, hw, he⟩ := retire_next h
  have hd : t.dpc = s.dpcWrite.getD t.dpc := congrArg State.dpc he.frame
  have hs : t.spc = s.spcWrite.getD t.spc := congrArg State.spc he.frame
  refine ⟨fun h => ?_, fun h => ?_⟩
  · rw [hd, h]; rfl
  · rw [hs, h]; rfl

/-! ### A whole instruction -/

/-- The state after the issue of an instruction of one guarded addition and four nops. -/
theorem issueBundle_iadd (s : State) (s1 s2 d : Reg) (len : BitVec 16) (hs : s.scratchOk = true) :
    issueBundle ((Bundle.nops len).put 1 (.iadd 1 s1 s2 d)) s = .next (s.issueResult d (s.reg s1 + s.reg s2) 1) := by
  have hg : s.guard 1 = true := by rw [State.guard, reg_one]; rfl
  have hadd : exec (.iadd 1 s1 s2 d) s = .next (s.issueResult d (s.reg s1 + s.reg s2) 1) :=
    (issueValue_eq .alu 1 d _ s).trans (by rw [hg]; rfl)
  have hacc : s.issue.accesses = [] := by
    simp only [State.scratchOk, Bool.and_eq_true, decide_eq_true_eq] at hs
    exact hs.1
  refine issueBundle_of_order (t := s.issueResult d (s.reg s1 + s.reg s2) 1) (issueOps_cons_next _ hadd) rfl ?_
  simp [State.twoSpecial, hacc]

/-- Settles O17: the addition issues one result, which is the only one due at the end of the instruction. -/
theorem addReachesItsRegister : Obligations.AddReachesItsRegister := by
  intro inp s s1 s2 d len h0 h1 hr hj hs
  let u := s.issueResult d (s.reg s1 + s.reg s2) 1
  have hres : u.results = [⟨d, s.reg s1 + s.reg s2, 1⟩] := by simp [u, hr]
  have hdue : u.dueResults = [⟨d, s.reg s1 + s.reg s2, 1⟩] := by simp [State.dueResults, hres]
  have hred : u.redirects = [] := hj
  obtain ⟨t, ht⟩ := retire_ok (s := u) (by simp [hdue]) (by simp [hred]) inp s.pc len
  obtain ⟨kept, hw, he⟩ := retire_next ht
  have hk : kept = [⟨d, s.reg s1 + s.reg s2, 1⟩] := hdue ▸ he.kept_all (by simp [hdue])
  have hreg : ∀ q, t.reg q = (u.setReg d (s.reg s1 + s.reg s2)).reg q := fun q =>
    reg_congr (by rw [congrArg State.regs he.frame, hk]; rfl) q
  refine ⟨t, ?_, ?_, fun q hq => ?_, ?_, ?_⟩
  · rw [runBundle, issueBundle_iadd _ _ _ _ _ hs]
    show Res.run (u.retire inp s.pc len) _ = _
    rw [ht]
    rfl
  · rw [hreg, reg_setReg_same _ _ _ h0 h1]
  · rw [hreg, reg_setReg_other _ _ _ _ hq]
    exact reg_congr rfl q
  · exact he.nextPc (by simp [hred])
  · rw [congrArg State.results he.frame]
    simp [laterResults, hres]

end Sys2Proof.Machine
end

section
/-! SUPPORT. What a clock cycle does to the timers, the request lines and the pending flags (R621, R642, R643), and the
statement about the cycle counter and stall cycles. -/
namespace Sys2Proof.Machine

theorem bitsOf_getLsbD (n : Nat) (p : Nat → Bool) (j : Nat) : (bitsOf n p).getLsbD j = (decide (j < n) && p j) := by
  induction n with
  | zero => simp [bitsOf]
  | succ n ih =>
    rw [bitsOf, BitVec.getLsbD_cons, ih]
    by_cases hj : j = n
    · simp [hj]
    · have h : decide (j < n + 1) = decide (j < n) := by
        rw [decide_eq_decide]
        omega
      rw [if_neg hj, h]

theorem bit_getLsbD (k j : Nat) (hj : j < 32) : (bit k).getLsbD j = decide (j = k) := by
  rw [bit, BitVec.natCast_eq_ofNat, BitVec.getLsbD_ofNat, Nat.one_shiftLeft, Nat.testBit_two_pow]
  simp [hj, eq_comm]

theorem leadingEdge_pend (s : State) (m n : Fin 32) :
    (s.leadingEdge m).pend.getLsbD n = (s.pend.getLsbD n || !s.levelSensitive n && decide (n = m)) := by
  unfold State.leadingEdge
  have hb : (bit m.val).getLsbD n.val = decide (n = m) := by
    rw [bit_getLsbD _ _ n.isLt, decide_eq_decide, Fin.ext_iff]
  by_cases hn : n = m
  · subst hn
    cases s.levelSensitive n with
    | true => simp only [if_true, Bool.not_true, Bool.false_and, Bool.or_false]
    | false => simp only [Bool.false_eq_true, if_false, BitVec.getLsbD_or, hb, Bool.not_false, Bool.true_and]
  · split
    · simp only [hn, decide_false, Bool.and_false, Bool.or_false]
    · simp only [BitVec.getLsbD_or, hb, hn, decide_false, Bool.and_false, Bool.or_false]

@[simp] theorem leadingEdge_timers (s : State) (n : Fin 32) : (s.leadingEdge n).timers = s.timers := by
  obtain ⟨_, h⟩ := leadingEdge_frame s n
  rw [h]

@[simp] theorem leadingEdge_isetting (s : State) (n : Fin 32) : (s.leadingEdge n).isetting = s.isetting := by
  obtain ⟨_, h⟩ := leadingEdge_frame s n
  rw [h]

/-! ### Timers -/

/-- `t` comes from `s` by one clock cycle of each of the timers `ks`, with the events `events`. -/
structure Ticked (s t : State) (events : Nat → Nat) (ks : List (Fin 4)) : Prop where
  isetting : t.isetting = s.isetting
  timers : ∀ k : Fin 4, t.timers[k] =
    if k ∈ ks then { (s.timers[k].tick events).1 with pulse := t.timers[k].pulse } else s.timers[k]
  pulses : ∀ k ∈ ks, (s.timers[k].tick events).2 = true → 0 < t.timers[k].pulse
  pend : ∀ n : Fin 32, t.pend.getLsbD n = (s.pend.getLsbD n || !s.levelSensitive n &&
    ks.any fun k => decide (n = timerSource k) && (s.timers[k].tick events).2)

theorem levelSensitive_congr {s t : State} (h : t.isetting = s.isetting) (n : Fin 32) :
    t.levelSensitive n = s.levelSensitive n := by
  simp [State.levelSensitive, State.mp, h]

theorem set_get {α : Type} {n : Nat} (v : Vector α n) (k j : Fin n) (x : α) :
    (v.set k x)[j] = if j = k then x else v[j] := by
  rw [Fin.getElem_fin, Vector.getElem_set]
  simp [Fin.ext_iff, eq_comm]

theorem tickTimer_ticked (s : State) (events : Nat → Nat) (k : Fin 4) : Ticked s (s.tickTimer events k) events [k] := by
  have hone : ∀ j : Fin 4, j ∈ [k] ↔ j = k := fun j => List.mem_singleton
  unfold State.tickTimer
  dsimp only
  cases hw : (s.timers[k].tick events).2 with
  | false =>
    rw [if_neg Bool.false_ne_true]
    refine ⟨rfl, fun j => ?_, fun j hj hp => ?_, fun n => ?_⟩
    · simp only [set_get, hone]
      by_cases h : j = k
      · subst h; simp only [if_true]
      · simp only [if_neg h]
    · rw [(hone j).1 hj, hw] at hp
      cases hp
    · rw [List.any_cons, hw]
      simp only [List.any_nil, Bool.and_false, Bool.or_false]
  | true =>
    rw [if_pos rfl, State.timerPulse]
    refine ⟨leadingEdge_isetting .., fun j => ?_, fun j hj _ => ?_, fun n => ?_⟩
    · simp only [leadingEdge_timers, set_get, hone]
      by_cases h : j = k
      · subst h; simp
      · simp only [if_neg h]
    · rw [(hone j).1 hj]
      simp only [leadingEdge_timers, set_get, if_true]
      omega
    · rw [leadingEdge_pend, List.any_cons, hw]
      simp only [List.any_nil, Bool.and_true, Bool.or_false]
      rfl

theorem Ticked.cons {s u t : State} {events : Nat → Nat} {k : Fin 4} {ks : List (Fin 4)} (h : Ticked s u events [k])
    (h' : Ticked u t events ks) (hk : k ∉ ks) : Ticked s t events (k :: ks) := by
  have hsame : ∀ j ∈ ks, u.timers[j] = s.timers[j] := fun j hj => by
    rw [h.timers, if_neg (by rintro hm; exact hk (List.mem_singleton.1 hm ▸ hj))]
  refine ⟨h'.isetting.trans h.isetting, fun j => ?_, fun j hj hp => ?_, fun n => ?_⟩
  · by_cases hj : j ∈ ks
    · rw [if_pos (List.mem_cons_of_mem _ hj), h'.timers, if_pos hj, hsame j hj]
    · have hu : t.timers[j] = u.timers[j] := (h'.timers j).trans (if_neg hj)
      have hm : j ∈ k :: ks ↔ j ∈ [k] := by simp [hj]
      simp only [hu, hm]
      exact h.timers j
  · rcases List.mem_cons.1 hj with rfl | hj
    · rw [h'.timers, if_neg hk]
      exact h.pulses j (List.mem_singleton.2 rfl) hp
    · exact h'.pulses j hj (by rw [hsame j hj]; exact hp)
  · have hany : (ks.any fun j => decide (n = timerSource j) && (u.timers[j].tick events).2) =
        ks.any fun j => decide (n = timerSource j) && (s.timers[j].tick events).2 := by
      rw [Bool.eq_iff_iff]
      simp only [List.any_eq_true]
      exact exists_congr fun j => and_congr_right fun hj => by rw [hsame j hj]
    rw [h'.pend, h.pend, levelSensitive_congr h.isetting, hany, List.any_cons]
    simp only [List.any_cons, List.any_nil, Bool.or_false]
    cases s.levelSensitive n <;> simp [Bool.or_assoc]

theorem tickTimers_ticked (s : State) (events : Nat → Nat) : Ticked s (s.tickTimers events) events [0, 1, 2, 3] :=
  (tickTimer_ticked ..).cons ((tickTimer_ticked ..).cons ((tickTimer_ticked ..).cons (tickTimer_ticked ..)
    (by decide)) (by decide)) (by decide)

/-- Sources 5 to 8 are those of the timers (R628). -/
theorem timer_sources (n : Fin 32) (wraps : Fin 4 → Bool) :
    ([0, 1, 2, 3].any fun k => decide (n = timerSource k) && wraps k) =
      if 5 ≤ n.val ∧ n.val ≤ 8 then wraps (Fin.ofNat 4 (n.val - 5)) else false := by
  by_cases h : 5 ≤ n.val ∧ n.val ≤ 8
  · have hn : n = 5 ∨ n = 6 ∨ n = 7 ∨ n = 8 := by omega
    rcases hn with rfl | rfl | rfl | rfl
    · simp [timerSource]
    · simp [timerSource]
      rfl
    · simp [timerSource]
    · simp [timerSource]
  · have hne : ∀ k : Fin 4, n ≠ timerSource k := fun k e => h (by subst e; simp [timerSource]; omega)
    simp [h, hne]

/-! ### The clock cycle -/

/-- The lines of the timers' sources are inside the core (R628). -/
theorem timerLines_getLsbD : ∀ n : Fin 32, (0x1E0 : Word).getLsbD n.val = decide (5 ≤ n.val ∧ n.val ≤ 8) := by decide

theorem sampleLines_pend (s : State) (lines : BitVec 32) (n : Fin 32) : (s.sampleLines lines).pend.getLsbD n =
    (s.pend.getLsbD n || !s.levelSensitive n &&
      (lines.getLsbD n && !s.irqLines.getLsbD n && !decide (5 ≤ n.val ∧ n.val ≤ 8))) := by
  have hn := n.isLt
  have hf : Fin.ofNat 32 n.val = n := Fin.ext (Nat.mod_eq_of_lt hn)
  simp only [State.sampleLines, BitVec.getLsbD_or, bitsOf_getLsbD, BitVec.getLsbD_and, BitVec.getLsbD_not,
    timerLines_getLsbD, hn, hf, decide_true, Bool.true_and]
  rw [Bool.and_comm (!s.levelSensitive n)]

/-- A clock cycle does to timers, lines and pending flags what `State.Clocked` says. -/
theorem clockCycle_clocked (s : State) (i : CycleInputs) (brk count : Bool) :
    s.Clocked (s.clockCycle i brk count) i brk := by
  let u : State := { s with
    ccMaster := if count then s.ccMaster + 1 else s.ccMaster
    issue := { s.issue with dataBreaks := 0 }
    cacheEvents := mapEach (fun n => n - 1) s.cacheEvents }
  have h : Ticked u (u.tickTimers (s.sourceEvents i brk)) (s.sourceEvents i brk) [0, 1, 2, 3] := tickTimers_ticked ..
  have hall : ∀ k : Fin 4, k ∈ [0, 1, 2, 3] := by decide
  have hlines : (u.tickTimers (s.sourceEvents i brk)).irqLines = s.irqLines := by
    obtain ⟨_, _, _, hf⟩ := tickTimers_frame u (s.sourceEvents i brk)
    rw [hf]
  refine ⟨rfl, fun k => (h.timers k).trans (if_pos (hall k)), fun k hp => h.pulses k (hall k) hp, fun n => ?_⟩
  have hp : (s.clockCycle i brk count).pend.getLsbD n =
      ((u.tickTimers (s.sourceEvents i brk)).sampleLines i.irq).pend.getLsbD n := rfl
  rw [hp, sampleLines_pend, h.pend, timer_sources, hlines, levelSensitive_congr h.isetting,
    levelSensitive_congr (s := s) (t := u) rfl]
  by_cases hn : 5 ≤ n.val ∧ n.val ≤ 8
  · simp [hn, u]
  · simp [hn, u]

/-! ### Steps that are clock cycles -/

theorem step_empty {s : State} (h : s.inbox = []) : step s = cycleStep s.quietInputs s := by
  simp only [step, h]

theorem step_cycle {s : State} {i : CycleInputs} {es : List EnvEvent} (h : s.inbox = .cycle i :: es) :
    step s = cycleStep i { s with inbox := es } := by
  simp only [step, h]

theorem step_stall {s : State} {i : CycleInputs} {es : List EnvEvent} (h : s.inbox = .stall i :: es) :
    step s = stallStep i { s with inbox := es } := by
  simp only [step, h]

theorem clockStep_running {i : CycleInputs} {s : State} (hp : s.pwrdwn = false) (hr : s.run = .running)
    (f : State → Out) : clockStep i f s = f s := by
  simp only [clockStep, hp, hr, Bool.false_eq_true, if_false]

/-- Settles O21: a clock cycle counts where it is told to, and a stall cycle is a clock cycle and no more. -/
theorem cycleCounterCountsStallsWithCs : Obligations.CycleCounterCountsStallsWithCs := by
  refine ⟨fun s t inp a len h => ?_, fun s inp es hin hrun hpd => ?_⟩
  · obtain ⟨kept, hw, he⟩ := retire_next h
    exact (congrArg State.ccMaster he.frame :)
  · let u : State := { s with inbox := es }
    have hstep : step s = .next (u.stallCycle inp) := (step_stall hin).trans (clockStep_running (s := u) hpd hrun _)
    have hc := clockCycle_clocked u inp false (countStalls u.pcsw)
    refine ⟨_, hstep, ⟨hc.lines, hc.timers, hc.pulses, hc.pend⟩, ?_⟩
    obtain ⟨_, _, _, hf⟩ := clockCycle_frame u inp false (countStalls u.pcsw)
    rw [State.stallCycle, hf]
    rfl

end Sys2Proof.Machine
end

section
/-! SUPPORT. The MMIO registers of the core: where each is, what a write changes and what is read back, with the statement
about them. -/
namespace Sys2Proof.Machine

/-! ### Offsets (R52) -/

/-- The offset of a register in the MMIO aperture (R52); a register that does not exist has none. -/
def MmioReg.offset : MmioReg → Nat
  | .memEvents => 0x10000C
  | .dcLockCtl => 0x100010
  | .dcLockAddr => 0x100014
  | .dcLockSize => 0x100018
  | .dcParams => 0x10001C
  | .icParams => 0x100020
  | .ctl => 0x100030
  | .dramLo => 0x100034
  | .dramHi => 0x100038
  | .dramClimit => 0x10003C
  | .apert1Lo => 0x100040
  | .apert1Hi => 0x100044
  | .startAddr => 0x100048
  | .pc => 0x10004C
  | .powerDown => 0x100108
  | .icLockCtl => 0x100210
  | .icLockAddr => 0x100214
  | .icLockSize => 0x100218
  | .sem => 0x100500
  | .excvec => 0x100800
  | .isetting k => 0x100810 + 4 * k.val
  | .ipending => 0x100820
  | .iclear => 0x100824
  | .imask => 0x100828
  | .intvec n => 0x100880 + 4 * n.val
  | .tmodulus k => 0x100C00 + 0x20 * k.val
  | .tvalue k => 0x100C04 + 0x20 * k.val
  | .tctl k => 0x100C08 + 0x20 * k.val
  | .modid => 0x100FFC
  | .bictl => 0x101000
  | .binstLow => 0x101004
  | .binstHigh => 0x101008
  | .bdctl => 0x101020
  | .bdataALow => 0x101030
  | .bdataAHigh => 0x101034
  | .bdataVal => 0x101038
  | .bdataMask => 0x10103C
  | .absent => 0

/-- One line of the table of offsets: the register `r` where `c` holds, else what the further lines give. -/
theorem offset_ite {c : Prop} [Decidable c] {off : Nat} {r q : MmioReg} (hr : c → off = r.offset)
    (hq : q ≠ .absent → off = q.offset) : (if c then r else q) ≠ .absent → off = (if c then r else q).offset := by
  split
  · exact fun _ => hr ‹_›
  · exact hq

/-- A register stands at its own offset alone. -/
theorem offset_of_mmioReg (off : Nat) : mmioReg off ≠ .absent → off = (mmioReg off).offset := by
  unfold mmioReg
  iterate 20 refine offset_ite (fun h => h) ?_
  refine offset_ite (fun h => ?_) ?_
  · simp only [MmioReg.offset, Fin.val_ofNat]
    omega
  iterate 3 refine offset_ite (fun h => h) ?_
  iterate 4
    refine offset_ite (fun h => ?_) ?_
    · simp only [MmioReg.offset, Fin.val_ofNat]
      omega
  iterate 9 refine offset_ite (fun h => h) ?_
  exact fun h => absurd rfl h

theorem mmioReg_offset (r : MmioReg) (h : r ≠ .absent) : mmioReg r.offset = r := by
  cases r with
  | isetting k => revert k; decide
  | intvec n => revert n; decide
  | tmodulus k => revert k; decide
  | tvalue k => revert k; decide
  | tctl k => revert k; decide
  | absent => exact absurd rfl h
  | _ => rfl

theorem mmioReg_eq {off : Nat} {r : MmioReg} (h : mmioReg off = r) (hr : r ≠ .absent) : off = r.offset := by
  subst h
  exact offset_of_mmioReg off hr

/-! ### What a write changes -/

theorem flushLine_frame (s : State) (k : Fin 32) (e : Fin 8) :
    ∃ m d c, s.flushLine k e = { s with mem := m, dcache := d, cacheEvents := c } := by
  unfold State.flushLine
  dsimp only
  split
  · exact ⟨_, _, _, rfl⟩
  · exact ⟨s.mem, _, s.cacheEvents, rfl⟩

theorem lockBlock_frame (s : State) (a : Word) (e : Fin 8) :
    ∃ m d c, s.lockBlock a e = { s with mem := m, dcache := d, cacheEvents := c } := by
  unfold State.lockBlock
  obtain ⟨_, _, _, h⟩ := flushLine_frame s (dSet a) e
  dsimp only
  rw [h]
  split
  · next e' _ =>
    obtain ⟨_, _, _, h'⟩ := flushLine_frame _ (dSet a) e'
    rw [h']
    exact ⟨_, _, _, rfl⟩
  · exact ⟨_, _, _, rfl⟩

theorem lockBlocks_frame (s : State) (a : Word) (j n : Nat) :
    ∃ m d c, s.lockBlocks a j n = { s with mem := m, dcache := d, cacheEvents := c } := by
  induction n generalizing s a j with
  | zero => exact ⟨s.mem, s.dcache, s.cacheEvents, rfl⟩
  | succ n ih =>
    unfold State.lockBlocks
    dsimp only
    split
    · obtain ⟨_, _, _, h⟩ := lockBlock_frame s a (Fin.ofNat 8 (j / 32))
      rw [h]
      exact ih ..
    · exact ih ..

/-- What a write of DC_LOCK_CTL that is not refused changes (R150). -/
theorem setDcLock_next {s t : State} {v : Word} (h : s.setDcLock v = .ok t) : ∃ m d cb c, t = { s with
    mem := m, dcache := d, copyback := cb, cacheEvents := c, dcLockCtl := v &&& Config.lockCtlMask } := by
  unfold State.setDcLock at h
  dsimp only at h
  split at h
  · split at h
    · cases h
    · obtain ⟨_, _, _, hf⟩ := lockBlocks_frame (State.drained _) s.dcLockAddr 0 (s.dcLockSize.toNat / 64)
      rw [hf] at h
      cases h
      exact ⟨_, _, _, _, rfl⟩
  · cases h
    exact ⟨s.mem, _, s.copyback, s.cacheEvents, rfl⟩

theorem lockIBlocks_frame (s : State) (a : Word) (j n : Nat) : ∃ c, s.lockIBlocks a j n = { s with icache := c } := by
  induction n generalizing s a j with
  | zero => exact ⟨s.icache, rfl⟩
  | succ n ih =>
    unfold State.lockIBlocks
    dsimp only
    split <;> exact ih ..

/-- What a write of IC_LOCK_CTL that is not refused changes (R164). -/
theorem setIcLock_next {s t : State} {v : Word} (h : s.setIcLock v = .ok t) :
    ∃ c, t = { s with icache := c, icLockCtl := v &&& Config.lockCtlMask } := by
  unfold State.setIcLock at h
  dsimp only at h
  split at h
  · split at h
    · cases h
    · obtain ⟨_, hf⟩ := lockIBlocks_frame { s with
        icLockCtl := v &&& Config.lockCtlMask
        icache := ICache.invalidate (mapEach CacheSet.unlock s.icache) } s.icLockAddr 0 (s.icLockSize.toNat / 64)
      rw [hf] at h
      cases h
      exact ⟨_, rfl⟩
  · cases h
    exact ⟨_, rfl⟩

/-- What a write of any register may change. -/
theorem writeMmioReg_frame {s t : State} {r : MmioReg} {v : Word} (h : s.writeMmioReg r v = .ok t) :
    t = { s with
      memEvents := t.memEvents
      dcLockCtl := t.dcLockCtl
      dcLockAddr := t.dcLockAddr
      dcLockSize := t.dcLockSize
      icLockCtl := t.icLockCtl
      icLockAddr := t.icLockAddr
      icLockSize := t.icLockSize
      sem := t.sem
      excvec := t.excvec
      intvec := t.intvec
      isetting := t.isetting
      pend := t.pend
      imask := t.imask
      timers := t.timers
      bictl := t.bictl
      binstLow := t.binstLow
      binstHigh := t.binstHigh
      bdctl := t.bdctl
      bdataALow := t.bdataALow
      bdataAHigh := t.bdataAHigh
      bdataVal := t.bdataVal
      bdataMask := t.bdataMask
      mem := t.mem
      dcache := t.dcache
      copyback := t.copyback
      icache := t.icache
      cacheEvents := t.cacheEvents } := by
  cases r with
  | dcLockCtl =>
    obtain ⟨_, _, _, _, rfl⟩ := setDcLock_next h
    rfl
  | icLockCtl =>
    obtain ⟨_, rfl⟩ := setIcLock_next h
    rfl
  | _ =>
    cases h
    rfl

/-- Beside registers, only the writes that lock change anything. -/
theorem writeMmioReg_memory {s t : State} {r : MmioReg} {v : Word} (h : s.writeMmioReg r v = .ok t)
    (hd : r ≠ .dcLockCtl) (hi : r ≠ .icLockCtl) : t.mem = s.mem ∧ t.dcache = s.dcache ∧ t.copyback = s.copyback
      ∧ t.icache = s.icache ∧ t.cacheEvents = s.cacheEvents := by
  cases r with
  | dcLockCtl => exact absurd rfl hd
  | icLockCtl => exact absurd rfl hi
  | _ =>
    cases h
    exact ⟨rfl, rfl, rfl, rfl, rfl⟩

/-! ### What is read -/

/-- The defined bits of a word that is read with free bits. -/
theorem withFreeBits_and (s : State) (mask v : Word) : (s.withFreeBits mask v).1 &&& mask = v &&& mask := by
  ext j hj
  simp only [State.withFreeBits, BitVec.getElem_and, BitVec.getElem_or, BitVec.getElem_not]
  cases mask[j] <;> simp

theorem withFreeBits_bit (s : State) (mask v : Word) (j : Nat) (h : mask.getLsbD j = true) :
    (s.withFreeBits mask v).1.getLsbD j = v.getLsbD j := by
  have := congrArg (fun w : Word => w.getLsbD j) (withFreeBits_and s mask v)
  simpa only [BitVec.getLsbD_and, h, Bool.and_true] using this

/-- A value stored under a mask reads back in its defined bits. -/
theorem withFreeBits_stored (s : State) (mask v : Word) : (s.withFreeBits mask (v &&& mask)).1 &&& mask = v &&& mask := by
  rw [withFreeBits_and, BitVec.and_assoc, BitVec.and_self]

/-- IPENDING depends on the modes, the pending flags, the lines and the timers' pulses. -/
theorem ipending_congr {s t : State} (hi : t.isetting = s.isetting) (hp : t.pend = s.pend)
    (hl : t.irqLines = s.irqLines) (hk : ∀ k : Fin 4, t.timers[k].pulse = s.timers[k].pulse) :
    t.ipending = s.ipending := by
  unfold State.ipending
  congr 1
  funext j
  have h0 : t.timers[0].pulse = s.timers[0].pulse := hk 0
  have h1 : t.timers[1].pulse = s.timers[1].pulse := hk 1
  have h2 : t.timers[2].pulse = s.timers[2].pulse := hk 2
  have h3 : t.timers[3].pulse = s.timers[3].pulse := hk 3
  simp only [State.pendingBit, levelSensitive_congr hi, hp, State.reqLine, hl, h0, h1, h2, h3]

theorem setTimer_get (s : State) (k j : Fin 4) (f : Timer → Timer) :
    (s.setTimer k f).timers[j] = if j = k then f s.timers[k] else s.timers[j] := set_get ..

/-- A timer is read through its own three registers and, by its pulse, through IPENDING and ICLEAR. -/
theorem readMmioReg_setTimer (s : State) (k : Fin 4) (f : Timer → Timer) (r : MmioReg)
    (hp : (f s.timers[k]).pulse = s.timers[k].pulse)
    (hm : r = .tmodulus k → (f s.timers[k]).modulus = s.timers[k].modulus)
    (hv : r = .tvalue k → (f s.timers[k]).value = s.timers[k].value)
    (hc : r = .tctl k → (f s.timers[k]).ctl = s.timers[k].ctl) :
    ((s.setTimer k f).readMmioReg r).1 = (s.readMmioReg r).1 := by
  have hpend : (s.setTimer k f).ipending = s.ipending := ipending_congr rfl rfl rfl fun j => by
    rw [setTimer_get]
    split_ifs with h
    · rw [h, hp]
    · rfl
  cases r with
  | tmodulus j =>
    show (s.setTimer k f).timers[j].modulus = s.timers[j].modulus
    rw [setTimer_get]
    split_ifs with h
    · subst h; exact hm rfl
    · rfl
  | tvalue j =>
    show (s.setTimer k f).timers[j].value = s.timers[j].value
    rw [setTimer_get]
    split_ifs with h
    · subst h; exact hv rfl
    · rfl
  | tctl j =>
    show (s.withFreeBits _ (s.setTimer k f).timers[j].ctl).1 = (s.withFreeBits _ s.timers[j].ctl).1
    rw [setTimer_get]
    split_ifs with h
    · subst h; rw [hc rfl]
    · rfl
  | ipending => exact hpend
  | iclear => exact hpend
  | _ => rfl

/-- A write of one register is seen through no other, but that IPENDING and ICLEAR are two names of the pending sources,
which ISETTING also selects. -/
theorem readMmioReg_other {s t : State} {r r' : MmioReg} {v : Word} (h : s.writeMmioReg r v = .ok t) (hne : r' ≠ r)
    (hp : r' = .ipending ∨ r' = .iclear → r ≠ .ipending ∧ r ≠ .iclear ∧ ∀ j, r ≠ .isetting j) :
    (t.readMmioReg r').1 = (s.readMmioReg r').1 := by
  cases r with
  | dcLockCtl =>
    obtain ⟨_, _, _, _, rfl⟩ := setDcLock_next h
    cases r' with
    | dcLockCtl => exact absurd rfl hne
    | _ => rfl
  | icLockCtl =>
    obtain ⟨_, rfl⟩ := setIcLock_next h
    cases r' with
    | icLockCtl => exact absurd rfl hne
    | _ => rfl
  | tmodulus k =>
    cases h
    exact readMmioReg_setTimer s k _ r' rfl (fun h => absurd h hne) (fun _ => rfl) fun _ => rfl
  | tvalue k =>
    cases h
    exact readMmioReg_setTimer s k _ r' rfl (fun _ => rfl) (fun h => absurd h hne) fun _ => rfl
  | tctl k =>
    cases h
    exact readMmioReg_setTimer s k _ r' rfl (fun _ => rfl) (fun _ => rfl) fun h => absurd h hne
  | intvec n =>
    cases h
    cases r' with
    | intvec m => exact (set_get ..).trans (if_neg fun h => hne (congrArg _ h))
    | _ => rfl
  | isetting k =>
    cases h
    cases r' with
    | isetting j => exact (set_get ..).trans (if_neg fun h => hne (congrArg _ h))
    | ipending => exact absurd rfl ((hp (.inl rfl)).2.2 k)
    | iclear => exact absurd rfl ((hp (.inr rfl)).2.2 k)
    | _ => rfl
  | ipending =>
    cases h
    cases r' with
    | ipending => exact absurd rfl hne
    | iclear => exact absurd rfl (hp (.inr rfl)).1
    | _ => rfl
  | iclear =>
    cases h
    cases r' with
    | ipending => exact absurd rfl (hp (.inl rfl)).2.1
    | iclear => exact absurd rfl hne
    | _ => rfl
  | _ =>
    cases h
    cases r' <;> first | rfl | exact absurd rfl hne

/-! ### The registers read back -/

/-- What a refused range is (R150, U9). -/
theorem setDcLock_error {s : State} {v : Word} (hv : v.getLsbD 0 = true) (h : 0x2000 < s.dcLockSize.toNat) :
    s.setDcLock v = .error .lockRange := by
  simp only [State.setDcLock, Config.lockEnableBit, hv, h, if_true]

theorem setDcLock_ok {s : State} {v : Word} (h : v.getLsbD 0 = false ∨ s.dcLockSize.toNat ≤ 0x2000) :
    ∃ t, s.setDcLock v = .ok t := by
  unfold State.setDcLock
  dsimp only
  split_ifs with hv hl
  · rcases h with h | h
    · exact absurd hv (by rw [Config.lockEnableBit, h]; exact Bool.false_ne_true)
    · exact absurd hl (Nat.not_lt.2 h)
  · exact ⟨_, rfl⟩
  · exact ⟨_, rfl⟩

theorem setIcLock_error {s : State} {v : Word} (hv : v.getLsbD 0 = true) (h : 0x4000 < s.icLockSize.toNat) :
    s.setIcLock v = .error .lockRange := by
  simp only [State.setIcLock, Config.lockEnableBit, hv, h, if_true]

theorem setIcLock_ok {s : State} {v : Word} (h : v.getLsbD 0 = false ∨ s.icLockSize.toNat ≤ 0x4000) :
    ∃ t, s.setIcLock v = .ok t := by
  unfold State.setIcLock
  dsimp only
  split_ifs with hv hl
  · rcases h with h | h
    · exact absurd hv (by rw [Config.lockEnableBit, h]; exact Bool.false_ne_true)
    · exact absurd hl (Nat.not_lt.2 h)
  · exact ⟨_, rfl⟩
  · exact ⟨_, rfl⟩

/-- The lock enable bit reads back (R73, R74). -/
theorem lockBit_stored (s : State) (v : Word) :
    (s.withFreeBits Config.lockCtlMask (v &&& Config.lockCtlMask)).1.getLsbD 0 = v.getLsbD 0 := by
  have h : Config.lockCtlMask.getLsbD 0 = true := rfl
  rw [withFreeBits_bit _ _ _ _ h, BitVec.getLsbD_and, h, Bool.and_true]

theorem dcLockCtl_readBack {s t : State} {v : Word} (h : s.setDcLock v = .ok t) :
    (t.readMmioReg .dcLockCtl).1.getLsbD 0 = v.getLsbD 0 := by
  obtain ⟨_, _, _, _, rfl⟩ := setDcLock_next h
  exact lockBit_stored ..

theorem icLockCtl_readBack {s t : State} {v : Word} (h : s.setIcLock v = .ok t) :
    (t.readMmioReg .icLockCtl).1.getLsbD 0 = v.getLsbD 0 := by
  obtain ⟨_, rfl⟩ := setIcLock_next h
  exact lockBit_stored ..

/-- The low twelve bits of a word. -/
theorem lowTwelve (v : Word) : (v.extractLsb' 0 12).setWidth 32 = v &&& 0xFFF := by
  apply BitVec.eq_of_toNat_eq
  have h : v.toNat &&& 4095 = v.toNat % 4096 := Nat.and_two_pow_sub_one_eq_mod v.toNat 12
  have hm : (0xFFF : Word).toNat = 4095 := rfl
  simp only [BitVec.toNat_setWidth, BitVec.extractLsb'_toNat, Nat.shiftRight_zero, BitVec.toNat_and, hm, h]
  omega

theorem lowTwelve_eq_zero_iff (v : Word) : v &&& 0xFFF = 0 ↔ v.extractLsb' 0 12 = 0 := by
  rw [← lowTwelve]
  constructor
  · intro h
    have hn : ((v.extractLsb' 0 12).setWidth 32).toNat = 0 := congrArg BitVec.toNat h
    have hlt := (v.extractLsb' 0 12).isLt
    rw [BitVec.toNat_setWidth, Nat.mod_eq_of_lt (by omega)] at hn
    exact BitVec.eq_of_toNat_eq hn
  · intro h
    rw [h]
    rfl

/-- SEM after a write, as it reads (R670, D24). -/
theorem semWrite_read (sem : BitVec 12) (v : Word) : (Config.semWrite sem (v.extractLsb' 0 12)).setWidth 32 =
    if sem = 0 ∨ v &&& 0xFFF = 0 then v &&& 0xFFF else sem.setWidth 32 := by
  simp only [Config.semWrite, lowTwelve_eq_zero_iff]
  by_cases h0 : sem = 0
  · rw [if_pos h0, if_pos (.inl h0), lowTwelve]
  · by_cases hw : v.extractLsb' 0 12 = 0
    · rw [if_neg h0, if_pos hw, if_pos (.inr hw), ← lowTwelve, hw]
    · rw [if_neg h0, if_neg hw, if_neg (not_or.2 ⟨h0, hw⟩)]

/-- The registers of the fourth clause of the statement: their defined bits read back. -/
theorem readBack_masked (s : State) (v : Word) (k : Fin 4) {r : MmioReg} {mask : Word}
    (h : (r, mask) ∈ [(.memEvents, Config.memEventsMask), (.tctl k, Config.tctlMask), (.bictl, Config.bictlMask),
      (.bdctl, Config.bdctlMask)]) :
    ∃ t, s.writeMmioReg r v = .ok t ∧ (t.readMmioReg r).1 &&& mask = v &&& mask := by
  simp only [List.mem_cons, List.not_mem_nil, or_false, Prod.mk.injEq] at h
  rcases h with ⟨rfl, rfl⟩ | ⟨rfl, rfl⟩ | ⟨rfl, rfl⟩ | ⟨rfl, rfl⟩
  · exact ⟨_, rfl, withFreeBits_stored ..⟩
  · refine ⟨_, rfl, ?_⟩
    show (State.withFreeBits _ _ (State.setTimer _ _ _).timers[k].ctl).1 &&& _ = _
    rw [setTimer_get, if_pos rfl]
    exact withFreeBits_stored ..
  · exact ⟨_, rfl, withFreeBits_stored ..⟩
  · exact ⟨_, rfl, withFreeBits_stored ..⟩

/-- The readable and writable registers without undefined bits and without side effects read back what was written. -/
theorem readBack_plain (s : State) (v : Word) (n : Fin 32) (k : Fin 4) {r : MmioReg}
    (h : r ∈ [.excvec, .imask, .binstLow, .binstHigh, .bdataALow, .bdataAHigh, .bdataVal, .bdataMask, .intvec n,
      .isetting k, .tmodulus k, .tvalue k]) : ∃ t, s.writeMmioReg r v = .ok t ∧ (t.readMmioReg r).1 = v := by
  have hk (f : Timer → Timer) : (s.setTimer k f).timers[k] = f s.timers[k] := (setTimer_get ..).trans (if_pos rfl)
  simp only [List.mem_cons, List.not_mem_nil, or_false] at h
  rcases h with rfl | rfl | rfl | rfl | rfl | rfl | rfl | rfl | rfl | rfl | rfl | rfl
  iterate 8 exact ⟨_, rfl, rfl⟩
  · exact ⟨_, rfl, (set_get ..).trans (if_pos rfl)⟩
  · exact ⟨_, rfl, (set_get ..).trans (if_pos rfl)⟩
  · exact ⟨_, rfl, congrArg Timer.modulus (hk _)⟩
  · exact ⟨_, rfl, congrArg Timer.value (hk _)⟩

/-- An offset of the list is that of a register of the list beside it. -/
theorem mmioReg_mem {off : Nat} {rs : List MmioReg} (h : off ∈ rs.map MmioReg.offset) (hr : .absent ∉ rs) :
    mmioReg off ∈ rs := by
  obtain ⟨r, hm, rfl⟩ := List.mem_map.1 h
  rwa [mmioReg_offset r fun e => hr (e ▸ hm)]

/-- Settles O36: each clause is one of the lemmas above, for the registers at the offsets it names. -/
theorem mmioRegistersReadBack : Obligations.MmioRegistersReadBack := by
  intro s v off n k
  refine ⟨fun h => ?_, fun p hp => ?_, fun h => ?_, fun p hp => ?_, ⟨_, rfl, semWrite_read ..⟩, fun h => ?_, rfl, rfl,
    fun off' h => by rw [h]; exact ⟨rfl, rfl⟩, fun t ht => ⟨fun off' hne hpend => ?_, fun hd hi => ?_, writeMmioReg_frame ht⟩⟩
  · exact readBack_plain s v n k (mmioReg_mem (by exact h) (by simp))
  · simp only [List.mem_cons, List.not_mem_nil, or_false] at hp
    rcases hp with rfl | rfl | rfl | rfl
    · exact readBack_masked s v k (r := .memEvents) (mask := Config.memEventsMask) (by simp)
    · have hk : mmioReg (0x100C08 + 0x20 * k.val) = .tctl k := mmioReg_offset (.tctl k) nofun
      simp only [hk]
      exact readBack_masked s v k (mask := Config.tctlMask) (by simp)
    · exact readBack_masked s v k (r := .bictl) (mask := Config.bictlMask) (by simp)
    · exact readBack_masked s v k (r := .bdctl) (mask := Config.bdctlMask) (by simp)
  · simp only [List.mem_cons, List.not_mem_nil, or_false] at h
    rcases h with rfl | rfl | rfl | rfl
    iterate 4 exact ⟨_, rfl, rfl⟩
  · simp only [List.mem_cons, List.not_mem_nil, or_false] at hp
    rcases hp with rfl | rfl
    · refine ⟨fun h => ?_, fun hv hl => setDcLock_error hv hl⟩
      obtain ⟨t, ht⟩ := setDcLock_ok h
      exact ⟨t, ht, dcLockCtl_readBack ht⟩
    · refine ⟨fun h => ?_, fun hv hl => setIcLock_error hv hl⟩
      obtain ⟨t, ht⟩ := setIcLock_ok h
      exact ⟨t, ht, icLockCtl_readBack ht⟩
  · simp only [List.mem_cons, List.not_mem_nil, or_false] at h
    rcases h with rfl | rfl | rfl | rfl | rfl | rfl | rfl | rfl | rfl | rfl | rfl
    iterate 11 rfl
  · refine readMmioReg_other ht hne fun h => ?_
    have hoff : off' ∈ [0x100820, 0x100824] := by
      rcases h with h | h <;> simp [mmioReg_eq h nofun, MmioReg.offset]
    obtain ⟨hnot, hset⟩ := hpend hoff
    refine ⟨fun h => hnot ?_, fun h => hnot ?_, fun j h => hset j (mmioReg_eq h nofun)⟩
    · simp [mmioReg_eq h nofun, MmioReg.offset]
    · simp [mmioReg_eq h nofun, MmioReg.offset]
  · exact writeMmioReg_memory ht (fun h => hd (mmioReg_eq h nofun)) fun h => hi (mmioReg_eq h nofun)

end Sys2Proof.Machine
end

section
/-! SUPPORT. What every step keeps: the invariant of the machine, first through the issue of an instruction and its end,
then through the clock cycles and events of the environment; and the apertures, which stay while the core runs. -/
namespace Sys2Proof.Machine

/-! ### The parts of the invariant -/

theorem constantsOk_congr {s t : State} (h : t.regs = s.regs) (hs : s.constantsOk = true) : t.constantsOk = true := by
  unfold State.constantsOk at hs ⊢
  rwa [h]

/-- The aperture registers and MMIO_BASE are the same (R54, R55, R112). -/
structure SameApertures (s t : State) : Prop where
  dramLo : t.dramLo = s.dramLo
  dramHi : t.dramHi = s.dramHi
  dramClimit : t.dramClimit = s.dramClimit
  apert1Lo : t.apert1Lo = s.apert1Lo
  apert1Hi : t.apert1Hi = s.apert1Hi
  mmioBase : t.mmioBase = s.mmioBase

theorem SameApertures.refl (s : State) : SameApertures s s := ⟨rfl, rfl, rfl, rfl, rfl, rfl⟩

theorem SameApertures.trans {s t u : State} (h : SameApertures s t) (k : SameApertures t u) : SameApertures s u :=
  ⟨k.dramLo.trans h.dramLo, k.dramHi.trans h.dramHi, k.dramClimit.trans h.dramClimit, k.apert1Lo.trans h.apert1Lo,
    k.apert1Hi.trans h.apert1Hi, k.mmioBase.trans h.mmioBase⟩

theorem State.SameCore.apertures {s t : State} (h : s.SameCore t) : SameApertures s t :=
  ⟨h.dramLo, h.dramHi, h.dramClimit, h.apert1Lo, h.apert1Hi, h.mmioBase⟩

theorem alignedOk_congr {s t : State} (h : s.SameCore t) (hs : s.alignedOk = true) : t.alignedOk = true := by
  unfold State.alignedOk at hs ⊢
  rwa [h.dramLo, h.dramHi, h.dramClimit, h.apert1Lo, h.apert1Hi, h.startAddr]

theorem resultsOk_iff (s : State) :
    s.resultsOk = true ↔ ∀ d ∈ s.results.map Result.dest, d ≠ 0 ∧ d ≠ 1 := by
  simp [State.resultsOk, List.all_eq_true, Bool.and_eq_true]

theorem redirectsOk_iff (s : State) : s.redirectsOk = true ↔
    (∀ r ∈ s.redirects, r.left < 3) ∧ (s.redirects.map fun r => r.left).Nodup := by
  simp only [State.redirectsOk, Bool.and_eq_true, List.all_eq_true, decide_eq_true_eq, distinct_iff]
  exact Iff.rfl

theorem scratchOk_congr {s t : State} (ha : t.issue.accesses = s.issue.accesses) (hi : t.issue.iclr = s.issue.iclr)
    (hs : s.scratchOk = true) : t.scratchOk = true := by
  unfold State.scratchOk at hs ⊢
  rwa [ha, hi]

/-- The invariant through an update that `Quiet` describes and that leaves the scratch of the instruction alone. -/
theorem Quiet.inv {s t : State} (h : Quiet s t) (hi : t.issue = s.issue) (hs : s.Inv) : t.Inv := by
  obtain ⟨hc, hm, ha, hr, hj, hx, hf, ht⟩ := hs
  refine ⟨constantsOk_congr h.core.regs hc, h.memory hm, alignedOk_congr h.core ha, ?_, ?_,
    scratchOk_congr (by rw [hi]) (by rw [hi]) hx, h.fetches hf, h.tags ht⟩
  · rw [resultsOk_iff] at hr ⊢
    rwa [h.dests]
  · rw [redirectsOk_iff] at hj ⊢
    rwa [h.redirects]

/-! ### The issue of an instruction -/

/-- What holds of the state between two operations of an instruction: the invariant, but for the scratch, and with jumps
issued in this instruction still at full distance. -/
structure State.Issuing (s : State) : Prop where
  constants : s.constantsOk = true
  memory : s.memOk = true
  aligned : s.alignedOk = true
  results : s.resultsOk = true
  redirects : ∀ r ∈ s.redirects, r.left ≤ 3
  fetches : s.fetchesOk = true
  tags : s.tagsOk

theorem State.Inv.issuing {s : State} (h : s.Inv) : s.Issuing := by
  obtain ⟨hc, hm, ha, hr, hj, -, hf, ht⟩ := h
  exact ⟨hc, hm, ha, hr, fun r hr => Nat.le_of_lt (((redirectsOk_iff s).1 hj).1 r hr), hf, ht⟩

theorem Quiet.issuing {s t : State} (h : Quiet s t) (hs : s.Issuing) : t.Issuing := by
  refine ⟨constantsOk_congr h.core.regs hs.constants, h.memory hs.memory, alignedOk_congr h.core hs.aligned,
    ?_, ?_, h.fetches hs.fetches, h.tags hs.tags⟩
  · have hr := hs.results
    rw [resultsOk_iff] at hr ⊢
    rwa [h.dests]
  · rw [h.redirects]
    exact hs.redirects

theorem issueResult_issuing {s : State} (d : Reg) (v : Word) (lat : Nat) (hd : d ≠ 0 ∧ d ≠ 1) (hs : s.Issuing) :
    (s.issueResult d v lat).Issuing := by
  refine ⟨hs.constants, hs.memory, hs.aligned, ?_, hs.redirects, hs.fetches, hs.tags⟩
  have hr := hs.results
  rw [resultsOk_iff] at hr ⊢
  simpa only [issueResult_results, List.map_cons, List.mem_cons, forall_eq_or_imp] using ⟨hd, hr⟩

/-- An operation whose destination is none of r0 and r1 keeps what holds during the issue. -/
theorem Issued.issuing {d : Option Reg} {s t : State} (h : Issued d s t) (hd : ∀ r, d = some r → r ≠ 0 ∧ r ≠ 1)
    (hs : s.Issuing) : t.Issuing := by
  cases h with
  | quiet h => exact h.issuing hs
  | result u r v lat hr h ht => exact ht.issuing (issueResult_issuing r v lat (hd r hr) (h.issuing hs))
  | jump target i ht =>
    subst ht
    refine ⟨hs.constants, hs.memory, hs.aligned, hs.results, ?_, hs.fetches, hs.tags⟩
    simpa only [List.mem_cons, forall_eq_or_imp] using ⟨Nat.le_refl 3, hs.redirects⟩

theorem destOk_dest {i : Instr} (h : i.destOk = true) (r : Reg) (hr : i.dest? = some r) : r ≠ 0 ∧ r ≠ 1 := by
  simpa only [Instr.destOk, hr, Bool.and_eq_true, decide_eq_true_eq] using h

theorem exec_issuing {i : Instr} {s t : State} (hi : i.destOk = true) (h : exec i s = .next t) (hs : s.Issuing) :
    t.Issuing := by
  obtain ⟨u, hq, hu⟩ := exec_issued h
  exact hu.issuing (destOk_dest hi) (hq.issuing hs)

theorem issueOps_issuing {is : List Instr} {s t : State} (hi : ∀ i ∈ is, i.destOk = true)
    (h : issueOps is s = .next t) (hs : s.Issuing) : t.Issuing := by
  induction is generalizing s with
  | nil => cases h; exact hs
  | cons i is ih =>
    simp only [List.mem_cons, forall_eq_or_imp] at hi
    unfold issueOps at h
    split at h
    · next u hu => exact ih hi.2 h (exec_issuing hi.1 hu hs)
    · next hn => exact absurd h (hn t)

theorem issueOps_sameCore {is : List Instr} {s t : State} (h : issueOps is s = .next t) : s.SameCore t := by
  induction is generalizing s with
  | nil => cases h; exact .refl _
  | cons i is ih =>
    unfold issueOps at h
    split at h
    · next u hu => exact (operationsLeaveRegistersAtIssue i s u hu).trans (ih h)
    · next hn => exact absurd h (hn t)

/-- How an instruction is issued: slots 1 to 3, then slots 4 and 5 in one of the two orders, after at most one draw. -/
theorem issueBundle_next {b : Bundle} {s t : State} (h : issueBundle b s = .next t) :
    ∃ u v is, issueOps [b.slot1, b.slot2, b.slot3] s = .next u ∧ Quiet u v
      ∧ (is = [b.slot4, b.slot5] ∨ is = [b.slot5, b.slot4]) ∧ issueOps is v = .next t := by
  unfold issueBundle at h
  split at h
  swap
  · next hn => exact absurd h (hn t)
  next u hu =>
  split at h
  swap
  · next hn => exact absurd h (hn t)
  next w hw =>
  dsimp only at h
  split at h
  · split at h
    · exact ⟨u, _, _, hu, drawn_quiet u, .inl rfl, h⟩
    · exact ⟨u, _, _, hu, drawn_quiet u, .inr rfl, h⟩
  · cases h
    exact ⟨u, u, _, hu, .refl u, .inl rfl, hw⟩

theorem issueBundle_sameCore {b : Bundle} {s t : State} (h : issueBundle b s = .next t) : s.SameCore t := by
  obtain ⟨u, v, is, hu, hq, -, ht⟩ := issueBundle_next h
  exact ((issueOps_sameCore hu).trans hq.core).trans (issueOps_sameCore ht)

/-- Every slot of a bundle whose operations are well formed has a legal destination. -/
theorem opsOk_destOk {b : Bundle} (h : b.opsOk = true) :
    ∀ i ∈ [b.slot1, b.slot2, b.slot3, b.slot4, b.slot5], i.destOk = true := by
  have hw : ∀ i : Instr, i.wellFormed = true → i.destOk = true := fun i hi => by
    simp only [Instr.wellFormed, Bool.and_eq_true] at hi
    exact hi.1.2
  simp only [Bundle.opsOk, Bundle.ops, List.all_cons, List.all_nil, Bool.and_true, Bool.and_eq_true] at h
  obtain ⟨h1, h2, h3, h4, h5⟩ := h
  simp only [List.mem_cons, List.not_mem_nil, or_false, forall_eq_or_imp, forall_eq]
  exact ⟨hw _ h1, hw _ h2, hw _ h3, hw _ h4, hw _ h5⟩

theorem issueBundle_issuing {b : Bundle} {s t : State} (hb : b.opsOk = true) (h : issueBundle b s = .next t)
    (hs : s.Issuing) : t.Issuing := by
  have hd := opsOk_destOk hb
  simp only [List.mem_cons, List.not_mem_nil, or_false, forall_eq_or_imp, forall_eq] at hd
  obtain ⟨d1, d2, d3, d4, d5⟩ := hd
  obtain ⟨u, v, is, hu, hq, his, ht⟩ := issueBundle_next h
  refine issueOps_issuing ?_ ht (hq.issuing (issueOps_issuing ?_ hu hs))
  · rcases his with rfl | rfl <;> simp [d4, d5]
  · simp [d1, d2, d3]

/-! ### The end of an instruction -/

theorem setReg_constantsOk {s : State} (r : Reg) (v : Word) (hs : s.constantsOk = true) :
    (s.setReg r v).constantsOk = true := by
  unfold State.setReg
  split_ifs with h0 h1
  · exact hs
  · exact hs
  · have hn0 : r.toNat ≠ 0 := fun e => h0 (BitVec.eq_of_toNat_eq e)
    have hn1 : r.toNat ≠ 1 := fun e => h1 (BitVec.eq_of_toNat_eq e)
    simpa only [State.constantsOk, Vector.getElem_set_ne _ _ hn0, Vector.getElem_set_ne _ _ hn1] using hs

theorem writeResults_constantsOk {s : State} (rs : List Result) (hs : s.constantsOk = true) :
    (s.writeResults rs).constantsOk = true := by
  induction rs generalizing s with
  | nil => exact hs
  | cons r rs ih => exact ih (setReg_constantsOk _ _ hs)

theorem laterResults_dest {rs : List Result} {d : Reg} (h : d ∈ (laterResults rs).map Result.dest) :
    d ∈ rs.map Result.dest := by
  simp only [laterResults, List.map_map, List.mem_map, List.mem_filter] at h ⊢
  obtain ⟨r, ⟨hr, -⟩, rfl⟩ := h
  exact ⟨r, hr, rfl⟩

/-- The jumps that are left are one instruction nearer, and still at distinct distances. -/
theorem laterRedirects_nodup {rs : List Redirect} (h : (rs.map fun r => r.left).Nodup) :
    ((laterRedirects rs).map fun r => r.left).Nodup := by
  induction rs with
  | nil => exact h
  | cons r rs ih =>
    simp only [List.map_cons, List.nodup_cons, List.mem_map, not_exists, not_and] at h
    by_cases hr : r.left = 0
    · simpa [laterRedirects, hr] using ih h.2
    · have hcons : laterRedirects (r :: rs) = { r with left := r.left - 1 } :: laterRedirects rs := by
        simp [laterRedirects, hr]
      rw [hcons, List.map_cons, List.nodup_cons]
      refine ⟨fun hm => ?_, ih h.2⟩
      simp only [laterRedirects, List.map_map, List.mem_map, List.mem_filter, decide_eq_true_eq,
        Function.comp_apply] at hm
      obtain ⟨q, ⟨hq, hq0⟩, he⟩ := hm
      exact h.1 q hq (by omega)

theorem laterRedirects_left {rs : List Redirect} (h : ∀ r ∈ rs, r.left ≤ 3) : ∀ r ∈ laterRedirects rs, r.left < 3 := by
  simp only [laterRedirects, List.mem_map, List.mem_filter, decide_eq_true_eq]
  rintro _ ⟨r, ⟨hr, h0⟩, rfl⟩
  have := h r hr
  show r.left - 1 < 3
  omega

theorem retire_inv {s t : State} {i : CycleInputs} {a : Word} {len : BitVec 16} (hs : s.Issuing)
    (h : s.retire i a len = .ok t) : t.Inv := by
  obtain ⟨kept, hw, he⟩ := retire_next h
  rw [he.frame]
  refine ⟨constantsOk_congr (s := s.writeResults kept) rfl (writeResults_constantsOk kept hs.constants), hs.memory,
    hs.aligned, ?_, ?_, rfl, hs.fetches, hs.tags⟩
  · have hr := hs.results
    rw [resultsOk_iff] at hr ⊢
    exact fun d hd => hr d (laterResults_dest hd)
  · rw [redirectsOk_iff]
    exact ⟨laterRedirects_left hs.redirects, laterRedirects_nodup he.oneJump⟩

/-! ### Fetch and instruction -/

/-- The fetch changes the instruction caches, the count of their misses and the index of the next free value. -/
theorem fetch_frame (s : State) : ∃ ic old c n,
    s.fetch.2 = { s with icache := ic, icacheOld := old, cacheEvents := c, freeCount := n } := by
  unfold State.fetch State.fetched
  dsimp only
  split <;> exact ⟨_, _, _, _, rfl⟩

theorem fetch_quiet (s : State) : Quiet s s.fetch.2 := by
  obtain ⟨_, _, _, _, h⟩ := fetch_frame s
  rw [h]
  exact ⟨by constructor <;> rfl, id, rfl, rfl, id, id⟩

/-- The bytes of a well-formed instruction are read as that instruction. -/
theorem readBundle_of_wellFormed {bytes tail : List Byte} {b : Bundle} (h : decode bytes = .ok (b, tail))
    (hb : b.wellFormed = true) : readBundle bytes = .ok b := by
  simp only [Bundle.wellFormed, Bool.and_eq_true] at hb
  obtain ⟨⟨ho, hs⟩, hp⟩ := hb
  simp [readBundle, h, ho, hs, hp]

theorem readBundle_illFormed {bytes tail : List Byte} {b : Bundle} (h : decode bytes = .ok (b, tail))
    (hb : b.opsOk = false) : readBundle bytes = .error .illFormedOperation := by
  simp [readBundle, h, hb]

theorem readBundle_opsOk {bytes : List Byte} {b : Bundle} (h : readBundle bytes = .ok b) : b.opsOk = true := by
  unfold readBundle at h
  split at h
  · cases h
  · split_ifs at h with ho
    cases h
    simpa using ho

/-- A step of a running core that is not refused: an instruction is fetched, issued and ended. -/
theorem runInstruction_next {i : CycleInputs} {s t : State} (h : runInstruction i s = .next t) :
    ∃ b u, b.opsOk = true ∧ issueBundle b s.fetch.2 = .next u ∧ u.retire i s.fetch.2.pc b.length = .ok t := by
  unfold runInstruction at h
  split_ifs at h
  split at h
  · cases h
  next b hb =>
  unfold runBundle at h
  split at h
  · next u hu =>
    cases hr : u.retire i s.fetch.2.pc b.length with
    | error e => rw [hr] at h; cases h
    | ok v =>
      rw [hr] at h
      cases h
      exact ⟨b, u, readBundle_opsOk hb, hu, hr⟩
  · next hn => exact absurd h (hn t)

theorem runInstruction_inv {i : CycleInputs} {s t : State} (h : runInstruction i s = .next t) (hs : s.Inv) : t.Inv := by
  obtain ⟨b, u, hb, hu, hr⟩ := runInstruction_next h
  exact retire_inv (issueBundle_issuing hb hu ((fetch_quiet s).issuing hs.issuing)) hr

theorem runInstruction_apertures {i : CycleInputs} {s t : State} (h : runInstruction i s = .next t) :
    SameApertures s t := by
  obtain ⟨b, u, -, hu, hr⟩ := runInstruction_next h
  obtain ⟨kept, hw, he⟩ := retire_next hr
  refine ((fetch_quiet s).core.trans (issueBundle_sameCore hu)).apertures.trans ?_
  rw [he.frame]
  exact ⟨rfl, rfl, rfl, rfl, rfl, rfl⟩

/-! ### Clock cycles -/

theorem clockCycle_inv {s : State} (i : CycleInputs) (brk count : Bool) (hs : s.Inv) :
    (s.clockCycle i brk count).Inv := by
  obtain ⟨hc, hm, ha, hr, hj, hx, hf, ht⟩ := hs
  obtain ⟨_, _, _, h⟩ := clockCycle_frame s i brk count
  rw [h]
  exact ⟨hc, hm, ha, hr, hj, hx, hf, ht⟩

theorem clockCycle_apertures (s : State) (i : CycleInputs) (brk count : Bool) :
    SameApertures s (s.clockCycle i brk count) := by
  obtain ⟨_, _, _, h⟩ := clockCycle_frame s i brk count
  rw [h]
  exact ⟨rfl, rfl, rfl, rfl, rfl, rfl⟩

theorem offCycle_frame (s : State) (i : CycleInputs) :
    ∃ pend, s.offCycle i = { s with irqLines := i.irq, pend := pend, freeCount := s.freeCount + 1 } := by
  unfold State.offCycle
  dsimp only
  split <;> exact ⟨_, rfl⟩

theorem sleepCycle_frame (s : State) (i : CycleInputs) :
    ∃ count run, s.sleepCycle i = { s.drawn.clockCycle i false count with run := run } := by
  unfold State.sleepCycle
  dsimp only
  split <;> exact ⟨_, _, rfl⟩

/-- What a clock cycle that is not refused was: one in full powerdown, one of a running core, or an idle one. -/
theorem clockStep_cases {i : CycleInputs} {f : State → Out} {s t : State} {P : State → Prop}
    (h : clockStep i f s = .next t) (hoff : P (s.offCycle i)) (hrun : f s = .next t → P t) (hsleep : P (s.sleepCycle i))
    (hstop : P (s.stoppedCycle i)) : P t := by
  unfold clockStep at h
  split at h
  · cases h
    exact hoff
  · split at h
    · exact hrun h
    · cases h
      exact hsleep
    · cases h
      exact hstop

theorem clockStep_inv {i : CycleInputs} {f : State → Out} {s t : State} (h : clockStep i f s = .next t)
    (hf : f s = .next t → t.Inv) (hs : s.Inv) : t.Inv := by
  refine clockStep_cases h ?_ hf ?_ (clockCycle_inv i false false hs)
  · obtain ⟨_, ho⟩ := offCycle_frame s i
    obtain ⟨hc, hm, ha, hr, hj, hx, hf, ht⟩ := hs
    rw [ho]
    exact ⟨hc, hm, ha, hr, hj, hx, hf, ht⟩
  · obtain ⟨count, run, hz⟩ := sleepCycle_frame s i
    obtain ⟨hc, hm, ha, hr, hj, hx, hf, ht⟩ := clockCycle_inv i false count ((drawn_quiet s).inv rfl hs)
    rw [hz]
    exact ⟨hc, hm, ha, hr, hj, hx, hf, ht⟩

theorem clockStep_apertures {i : CycleInputs} {f : State → Out} {s t : State} (h : clockStep i f s = .next t)
    (hf : f s = .next t → SameApertures s t) : SameApertures s t := by
  refine clockStep_cases h ?_ hf ?_ (clockCycle_apertures ..)
  · obtain ⟨_, ho⟩ := offCycle_frame s i
    rw [ho]
    exact ⟨rfl, rfl, rfl, rfl, rfl, rfl⟩
  · obtain ⟨count, run, hz⟩ := sleepCycle_frame s i
    rw [hz]
    have hd := (drawn_quiet s).core.apertures.trans (clockCycle_apertures s.drawn i false count)
    exact ⟨hd.dramLo, hd.dramHi, hd.dramClimit, hd.apert1Lo, hd.apert1Hi, hd.mmioBase⟩

/-! ### The environment -/

theorem reset_tagsOk : State.reset.tagsOk := by
  intro k e e' hv
  have hl : State.reset.dcache[k].lines[e].valid = false := by simp [State.reset, CacheSet.reset, Line.reset]
  rw [hl] at hv
  cases hv

/-- Settles O10. -/
theorem resetMeetsInvariant : Obligations.ResetMeetsInvariant :=
  ⟨by decide, rfl, by decide, rfl, rfl, rfl, rfl, reset_tagsOk⟩

theorem resetCore_inv {s : State} (hm : s.memOk = true) : s.resetCore.Inv := by
  obtain ⟨hc, -, ha, hr, hj, hx, hf, ht⟩ := resetMeetsInvariant
  exact ⟨hc, hm, ha, hr, hj, hx, hf, ht⟩

theorem wakeByBus_frame (s : State) : ∃ run, s.wakeByBus = { s with run := run } ∧ (run = .stopped → s.run = .stopped) := by
  unfold State.wakeByBus
  split
  · exact ⟨_, rfl, nofun⟩
  · exact ⟨s.run, rfl, id⟩

theorem wakeByBus_inv {s : State} (hs : s.Inv) : s.wakeByBus.Inv := by
  obtain ⟨_, h, -⟩ := wakeByBus_frame s
  obtain ⟨hc, hm, ha, hr, hj, hx, hf, ht⟩ := hs
  rw [h]
  exact ⟨hc, hm, ha, hr, hj, hx, hf, ht⟩

/-- What a write of TM32_CTL that is not refused does: a reset, or a change of PLL_EN and RATIO and perhaps a start. -/
theorem writeCtl_next {s t : State} {v : Word} (h : s.writeCtl v = .ok t) :
    t = s.resetCore ∨ ∃ pll ratio run pc, t = { s with ctlPllEn := pll, ctlRatio := ratio, run := run, pc := pc } := by
  unfold State.writeCtl at h
  dsimp only at h
  split at h
  · cases h
    exact .inl rfl
  · split at h
    · cases h
      right
      unfold State.start
      split
      · split <;> exact ⟨_, _, _, _, rfl⟩
      · exact ⟨_, _, _, _, rfl⟩
    · cases h

/-- A write of an aperture register stores the 64 KB aligned value, and on a core that is not stopped only the old one. -/
theorem writeAperture_next {s t : State} {old v : Word} {f : Word → State} (h : s.writeAperture old v f = .ok t) :
    t = f (v &&& 0xFFFF0000) ∧ (s.run = .stopped ∨ v &&& 0xFFFF0000 = old) := by
  unfold State.writeAperture at h
  dsimp only at h
  split at h
  · next hc =>
    cases h
    exact ⟨rfl, hc.imp of_decide_eq_true id⟩
  · cases h

theorem alignedOk_iff (s : State) : s.alignedOk = true ↔ s.dramLo &&& 0xFFFF = 0 ∧ s.dramHi &&& 0xFFFF = 0
    ∧ s.dramClimit &&& 0xFFFF = 0 ∧ s.apert1Lo &&& 0xFFFF = 0 ∧ s.apert1Hi &&& 0xFFFF = 0
    ∧ s.startAddr &&& 0x3F = 0 := by
  simp only [State.alignedOk, Bool.and_eq_true, decide_eq_true_eq, and_assoc]

theorem aligned_64K (v : Word) : v &&& 0xFFFF0000 &&& 0xFFFF = 0 := by
  rw [BitVec.and_assoc]
  exact BitVec.and_zero

theorem aligned_64 (v : Word) : v &&& 0xFFFFFFC0 &&& 0x3F = 0 := by
  rw [BitVec.and_assoc]
  exact BitVec.and_zero

/-- `w` is an aperture register's old value or one that a PI master can store there. -/
def KeptOrAligned (old v w : Word) : Prop := w = old ∨ w = v &&& 0xFFFF0000

theorem KeptOrAligned.aligned {old v w : Word} (h : KeptOrAligned old v w) (ho : old &&& 0xFFFF = 0) :
    w &&& 0xFFFF = 0 := by
  rcases h with rfl | rfl
  · exact ho
  · exact aligned_64K v

/-- What a PI master's write of the register `r` makes of `s`, where it is not refused. -/
inductive BusWritten (s t : State) (r : MmioReg) (v : Word) : Prop
  | reset (ht : t = s.resetCore)
  | ctl (pll : BitVec 1) (ratio : BitVec 6) (run : RunState) (pc : Word)
      (ht : t = { s with ctlPllEn := pll, ctlRatio := ratio, run := run, pc := pc })
  | aperture (lo hi climit lo1 hi1 : Word)
      (ht : t = { s with dramLo := lo, dramHi := hi, dramClimit := climit, apert1Lo := lo1, apert1Hi := hi1 })
      (hold : KeptOrAligned s.dramLo v lo ∧ KeptOrAligned s.dramHi v hi ∧ KeptOrAligned s.dramClimit v climit
        ∧ KeptOrAligned s.apert1Lo v lo1 ∧ KeptOrAligned s.apert1Hi v hi1)
      (hfix : s.run = .stopped
        ∨ lo = s.dramLo ∧ hi = s.dramHi ∧ climit = s.dramClimit ∧ lo1 = s.apert1Lo ∧ hi1 = s.apert1Hi)
  | startAddr (ht : t = { s with startAddr := v &&& 0xFFFFFFC0 })
  | register (h : s.writeMmioReg r v = .ok t)

theorem busWriteReg_next {s t : State} {r : MmioReg} {v : Word} (h : s.busWriteReg r v = .ok t) :
    BusWritten s t r v := by
  cases r with
  | ctl =>
    rcases writeCtl_next h with rfl | ⟨_, _, _, _, rfl⟩
    · exact .reset rfl
    · exact .ctl _ _ _ _ rfl
  | dramLo =>
    obtain ⟨rfl, hv⟩ := writeAperture_next (f := fun w => { s with dramLo := w }) h
    exact .aperture _ s.dramHi s.dramClimit s.apert1Lo s.apert1Hi rfl ⟨.inr rfl, .inl rfl, .inl rfl, .inl rfl, .inl rfl⟩ (hv.imp_right fun e => ⟨e, rfl, rfl, rfl, rfl⟩)
  | dramHi =>
    obtain ⟨rfl, hv⟩ := writeAperture_next (f := fun w => { s with dramHi := w }) h
    exact .aperture s.dramLo _ s.dramClimit s.apert1Lo s.apert1Hi rfl ⟨.inl rfl, .inr rfl, .inl rfl, .inl rfl, .inl rfl⟩ (hv.imp_right fun e => ⟨rfl, e, rfl, rfl, rfl⟩)
  | dramClimit =>
    obtain ⟨rfl, hv⟩ := writeAperture_next (f := fun w => { s with dramClimit := w }) h
    exact .aperture s.dramLo s.dramHi _ s.apert1Lo s.apert1Hi rfl ⟨.inl rfl, .inl rfl, .inr rfl, .inl rfl, .inl rfl⟩ (hv.imp_right fun e => ⟨rfl, rfl, e, rfl, rfl⟩)
  | apert1Lo =>
    obtain ⟨rfl, hv⟩ := writeAperture_next (f := fun w => { s with apert1Lo := w }) h
    exact .aperture s.dramLo s.dramHi s.dramClimit _ s.apert1Hi rfl ⟨.inl rfl, .inl rfl, .inl rfl, .inr rfl, .inl rfl⟩ (hv.imp_right fun e => ⟨rfl, rfl, rfl, e, rfl⟩)
  | apert1Hi =>
    obtain ⟨rfl, hv⟩ := writeAperture_next (f := fun w => { s with apert1Hi := w }) h
    exact .aperture s.dramLo s.dramHi s.dramClimit s.apert1Lo _ rfl ⟨.inl rfl, .inl rfl, .inl rfl, .inl rfl, .inr rfl⟩ (hv.imp_right fun e => ⟨rfl, rfl, rfl, rfl, e⟩)
  | startAddr => cases h; exact .startAddr rfl
  | _ => exact .register h

theorem busWriteReg_inv {s t : State} {r : MmioReg} {v : Word} (h : s.busWriteReg r v = .ok t) (hs : s.Inv) :
    t.Inv := by
  obtain ⟨hc, hm, ha, hr, hj, hx, hf, htag⟩ := id hs
  obtain ⟨a1, a2, a3, a4, a5, a6⟩ := (alignedOk_iff s).1 ha
  cases busWriteReg_next h with
  | reset ht => exact ht ▸ resetCore_inv hm
  | ctl _ _ _ _ ht =>
    subst ht
    exact ⟨hc, hm, ha, hr, hj, hx, hf, htag⟩
  | aperture _ _ _ _ _ ht hold _ =>
    obtain ⟨k1, k2, k3, k4, k5⟩ := hold
    subst ht
    exact ⟨hc, hm, (alignedOk_iff _).2 ⟨k1.aligned a1, k2.aligned a2, k3.aligned a3, k4.aligned a4, k5.aligned a5, a6⟩,
      hr, hj, hx, hf, htag⟩
  | startAddr ht =>
    subst ht
    exact ⟨hc, hm, (alignedOk_iff _).2 ⟨a1, a2, a3, a4, a5, aligned_64 v⟩, hr, hj, hx, hf, htag⟩
  | register h => exact (writeMmioReg_quiet h).inv (by rw [writeMmioReg_frame h]) hs

/-- A PI master's write to a core that is not stopped and that it does not reset leaves the apertures as they are. -/
theorem busWriteReg_apertures {s t : State} {r : MmioReg} {v : Word} (h : s.busWriteReg r v = .ok t)
    (hs : s.run ≠ .stopped) (ht : t.run ≠ .stopped) : SameApertures s t := by
  cases busWriteReg_next h with
  | reset he => exact absurd (congrArg State.run he) ht
  | ctl _ _ _ _ he => exact he ▸ ⟨rfl, rfl, rfl, rfl, rfl, rfl⟩
  | aperture _ _ _ _ _ he _ hfix =>
    obtain ⟨e1, e2, e3, e4, e5⟩ := hfix.resolve_left hs
    exact he ▸ ⟨e1, e2, e3, e4, e5, rfl⟩
  | startAddr he => exact he ▸ ⟨rfl, rfl, rfl, rfl, rfl, rfl⟩
  | register h => exact (writeMmioReg_quiet h).core.apertures

/-- A PI master's write does nothing, or writes a register of the core it has woken. -/
theorem busWrite_next {s t : State} {off : BitVec 21} {v : Word} (h : s.busWrite off v = .ok t) :
    t = s ∨ s.wakeByBus.busWriteReg (mmioReg off.toNat) v = .ok t := by
  unfold State.busWrite at h
  split at h
  · cases h
    exact .inl rfl
  · split at h
    · exact .inr h
    · cases h
      exact .inl rfl

/-- A PI master's read changes at most the run state, its reply and the index of the next free value. -/
theorem busRead_frame (s : State) (off : BitVec 21) :
    ∃ run reply n, s.busRead off = { s with run := run, piReply := reply, freeCount := n } := by
  have hread : ∀ (u : State) (r : MmioReg), ∃ n, (u.readMmioReg r).2 = { u with freeCount := n } := fun u r => by
    cases r <;> first | exact ⟨u.freeCount, rfl⟩ | exact ⟨u.freeCount + 1, rfl⟩
  obtain ⟨run, hw, -⟩ := wakeByBus_frame s
  unfold State.busRead
  split
  · exact ⟨s.run, _, _, rfl⟩
  · split
    · rw [hw]
      exact ⟨_, _, _, rfl⟩
    · obtain ⟨n, hn⟩ := hread s.wakeByBus (mmioReg off.toNat)
      dsimp only
      rw [hn, hw]
      exact ⟨_, _, _, rfl⟩
    · exact ⟨s.run, _, _, rfl⟩

/-- The request for full powerdown, until the core stops: what is outstanding is completed. -/
theorem outstanding_quiet (s : State) : Quiet s s.finishFetch.finishFetch.drained :=
  ((finishFetch_quiet s).trans (finishFetch_quiet _)).trans (drained_quiet _)

theorem finishFetch_issue (s : State) : s.finishFetch.issue = s.issue := by rw [finishFetch_frame]

theorem powerdownRequest_inv {s : State} (level : Bool) (hs : s.Inv) : (s.powerdownRequest level).Inv := by
  unfold State.powerdownRequest
  split
  · obtain ⟨hc, hm, ha, hr, hj, hx, hf, ht⟩ := (outstanding_quiet s).inv
      (by show s.finishFetch.finishFetch.issue = s.issue; rw [finishFetch_issue, finishFetch_issue]) hs
    exact ⟨hc, hm, ha, hr, hj, hx, rfl, ht⟩
  · obtain ⟨hc, hm, ha, hr, hj, hx, hf, ht⟩ := hs
    exact ⟨hc, hm, ha, hr, hj, hx, hf, ht⟩

theorem drainOldest_issue (s : State) : s.drainOldest.issue = s.issue := by
  unfold State.drainOldest
  split <;> rfl

theorem environment_inv {s t : State} {e : EnvEvent} (h : s.environment e = .ok t) (hs : s.Inv) : t.Inv := by
  obtain ⟨hc, hm, ha, hr, hj, hx, hf, ht⟩ := id hs
  cases e with
  | cycle i => cases h; exact hs
  | stall i => cases h; exact hs
  | piWrite off v =>
    rcases busWrite_next h with rfl | h
    · exact hs
    · exact busWriteReg_inv h (wakeByBus_inv hs)
  | piRead off =>
    cases h
    obtain ⟨_, _, _, hb⟩ := busRead_frame s off
    rw [hb]
    exact ⟨hc, hm, ha, hr, hj, hx, hf, ht⟩
  | dramWrite a b =>
    cases h
    exact ⟨hc, mem_write_wf s.mem _ b hm a.isLt, ha, hr, hj, hx, hf, ht⟩
  | drain =>
    cases h
    split
    · exact hs
    · exact (drainOldest_quiet s).inv (drainOldest_issue s) hs
  | fetchDone =>
    cases h
    split
    · exact hs
    · exact (finishFetch_quiet s).inv (finishFetch_issue s) hs
  | reset => cases h; exact resetCore_inv hm
  | pwrdwnReq level => cases h; exact powerdownRequest_inv level hs

theorem environment_apertures {s t : State} {e : EnvEvent} (h : s.environment e = .ok t) (hs : s.run ≠ .stopped)
    (ht : t.run ≠ .stopped) : SameApertures s t := by
  cases e with
  | cycle i => cases h; exact .refl s
  | stall i => cases h; exact .refl s
  | piWrite off v =>
    rcases busWrite_next h with rfl | h
    · exact .refl _
    · obtain ⟨run, hw, hstop⟩ := wakeByBus_frame s
      rw [hw] at h
      have ha := busWriteReg_apertures h (fun e => hs (hstop e)) ht
      exact ⟨ha.dramLo, ha.dramHi, ha.dramClimit, ha.apert1Lo, ha.apert1Hi, ha.mmioBase⟩
  | piRead off =>
    cases h
    obtain ⟨_, _, _, hb⟩ := busRead_frame s off
    rw [hb]
    exact ⟨rfl, rfl, rfl, rfl, rfl, rfl⟩
  | dramWrite a b => cases h; exact ⟨rfl, rfl, rfl, rfl, rfl, rfl⟩
  | drain =>
    cases h
    split
    · exact .refl s
    · exact (drainOldest_quiet s).core.apertures
  | fetchDone =>
    cases h
    split
    · exact .refl s
    · exact (finishFetch_quiet s).core.apertures
  | reset => cases h; exact absurd rfl ht
  | pwrdwnReq level =>
    cases h
    unfold State.powerdownRequest
    split
    · have hq := (outstanding_quiet s).core
      exact ⟨hq.dramLo, hq.dramHi, hq.dramClimit, hq.apert1Lo, hq.apert1Hi, hq.mmioBase⟩
    · exact ⟨rfl, rfl, rfl, rfl, rfl, rfl⟩

/-! ### The step -/

/-- A step is a clock cycle, with or without an instruction, or an event of the environment, in the state whose inbox has
lost its head. -/
theorem step_next {s t : State} (h : step s = .next t) : ∃ es, let u : State := { s with inbox := es }
    (∃ i, cycleStep i u = .next t) ∨ (∃ i, stallStep i u = .next t) ∨ ∃ e, u.environment e = .ok t := by
  unfold step at h
  split at h
  · next hin =>
    refine ⟨s.inbox, .inl ⟨_, h⟩⟩
  · next i es _ => exact ⟨es, .inl ⟨i, h⟩⟩
  · next i es _ => exact ⟨es, .inr (.inl ⟨i, h⟩)⟩
  · next e es _ _ _ =>
    refine ⟨es, .inr (.inr ⟨e, ?_⟩)⟩
    cases he : State.environment { s with inbox := es } e with
    | error r => rw [he] at h; cases h
    | ok u => rw [he] at h; cases h; rfl

/-- Settles O11: the instruction by `runInstruction_inv`, other clock cycles by `clockStep_inv`, events by
`environment_inv`. -/
theorem stepKeepsInvariant : Obligations.StepKeepsInvariant := by
  intro s t hs h
  obtain ⟨es, hstep⟩ := step_next h
  have hu : State.Inv { s with inbox := es } := by
    obtain ⟨hc, hm, ha, hr, hj, hx, hf, ht⟩ := hs
    exact ⟨hc, hm, ha, hr, hj, hx, hf, ht⟩
  rcases hstep with ⟨i, h⟩ | ⟨i, h⟩ | ⟨e, h⟩
  · exact clockStep_inv h (fun h => runInstruction_inv h hu) hu
  · refine clockStep_inv h (fun h => ?_) hu
    cases h
    exact clockCycle_inv i false _ hu
  · exact environment_inv h hu

/-- Settles O12: no clock cycle changes an aperture, and an event only on a core that is or becomes stopped. -/
theorem aperturesFixedWhileRunning : Obligations.AperturesFixedWhileRunning := by
  intro s t hs ht h
  obtain ⟨es, hstep⟩ := step_next h
  have hu : SameApertures { s with inbox := es } t := by
    rcases hstep with ⟨i, h⟩ | ⟨i, h⟩ | ⟨e, h⟩
    · exact clockStep_apertures h runInstruction_apertures
    · refine clockStep_apertures h fun h => ?_
      cases h
      exact clockCycle_apertures ..
    · exact environment_apertures h hs ht
  exact ⟨hu.dramLo, hu.dramHi, hu.dramClimit, hu.apert1Lo, hu.apert1Hi, hu.mmioBase⟩

/-- Settles O4: the clock cycle of a running core, whose fetch finds a well-formed instruction. -/
theorem stepRunsDecodedInstruction : Obligations.StepRunsDecodedInstruction := by
  intro s i es b tail hin hrun hpd u hap hfetch hdec hwf
  have hstep : step s = cycleStep i u := by
    rcases hin with hin | ⟨hin, rfl, rfl⟩
    · exact step_cycle hin
    · have hus : u = s := by
        show { s with inbox := [] } = s
        rw [← hin]
      rw [hus]
      exact step_empty hin
  have hpc : u.fetch.2.pc = u.pc := (fetch_quiet u).core.pc
  rw [hstep, cycleStep, clockStep_running (s := u) hpd hrun, runInstruction, hap, hfetch,
    readBundle_of_wellFormed hdec hwf]
  show runBundle i b u.fetch.2 = _
  rw [runBundle, hpc]
  cases issueBundle b u.fetch.2 with
  | next t =>
    rfl
  | fault r => rfl
  | refused r => rfl

/-- Settles O7: r0 and r1 are constants, and an instruction that names one as destination is not well formed. -/
theorem constantRegistersAreNoDestinations : Obligations.ConstantRegistersAreNoDestinations := by
  intro s
  refine ⟨reg_zero s, reg_one s, fun bytes tail b p hdec hp hd => readBundle_illFormed hdec ?_⟩
  have hdest : p.2.destOk = false := by
    rcases hd with hd | hd <;> simp [Instr.destOk, hd]
  rw [Bundle.opsOk, List.all_eq_false]
  exact ⟨p, hp, by simp [Instr.wellFormed, hdest]⟩

/-! ### Reset -/

/-- Every element of a cache after reset is as `Line.reset` says, in a set with the initial LRU bits. -/
theorem replicate_reset {t n : Nat} (k : Fin n) :
    (Vector.replicate n (CacheSet.reset t))[k].lru = Lru.initial
    ∧ ∀ e : Fin 8, (Vector.replicate n (CacheSet.reset t))[k].lines[e] = Line.reset t := by
  simp [CacheSet.reset]

theorem resetCore_values (s : State) : s.resetCore.ResetValues := by
  constructor
  case isetting => exact fun k => Vector.getElem_replicate ..
  case tctl => exact fun k => congrArg Timer.ctl (Vector.getElem_replicate ..)
  case dcache =>
    intro k e
    have h : s.resetCore.dcache[k].lines[e] = Line.reset 21 := (replicate_reset k).2 e
    rw [h]
    exact ⟨rfl, rfl⟩
  case dlru => exact fun k => (replicate_reset k).1
  case icache => exact fun k e => congrArg Line.valid ((replicate_reset k).2 e)
  case ilru => exact fun k => (replicate_reset k).1
  all_goals rfl

theorem reset_eq_resetCore : State.reset = State.reset.resetCore := rfl

/-- ACTION 01 written to TM32_CTL resets a core that is not in full powerdown (R700), which the access has woken. -/
theorem environment_resetAction {s : State} {v : Word} (hp : s.pwrdwn = false) (hv : v.extractLsb' 30 2 = 1) :
    s.environment (.piWrite 0x100030 v) = .ok s.wakeByBus.resetCore := by
  have h : s.environment (.piWrite 0x100030 v) = if s.pwrdwn then .ok s else s.wakeByBus.writeCtl v := rfl
  rw [h, hp, if_neg Bool.false_ne_true, State.writeCtl, if_pos hv]

/-- Settles O8: every way to reset ends in `State.resetCore`. -/
theorem everyResetGivesStatedValues : Obligations.EveryResetGivesStatedValues :=
  ⟨resetCore_values State.reset, fun s => ⟨⟨_, rfl, resetCore_values s⟩, fun _ hp hv =>
    ⟨_, environment_resetAction hp hv, resetCore_values _⟩⟩⟩

end Sys2Proof.Machine
end

section
/-! SUPPORT. Rounding (R362, R364): what `roundShift` chooses for `m / 2 ^ k`, and the single that `roundPack` makes of an
exact value, with the statement about them. -/
namespace Sys2Proof.Machine

/-! ### Quotients by a power of two -/

/-- Rounding only looks at what a shift leaves over: `m` is `q * 2 ^ k` and a remainder below `2 ^ k`, and the result is
`q` or the next integer. -/
theorem roundShift_eq (mode : BitVec 2) (sign : Bool) (m k : Nat) : ∃ q rem, m = q * 2 ^ k + rem ∧ rem < 2 ^ k ∧
    roundShift mode sign m k =
      (if roundUp mode sign (decide (q % 2 = 1)) rem k then q + 1 else q, decide (rem ≠ 0)) := by
  refine ⟨m / 2 ^ k, m % 2 ^ k, (Nat.div_add_mod' m (2 ^ k)).symm, Nat.mod_lt _ (Nat.two_pow_pos k), ?_⟩
  have hr : m - (m >>> k) <<< k = m % 2 ^ k := by
    rw [Nat.shiftRight_eq_div_pow, Nat.shiftLeft_eq]
    have := Nat.div_add_mod' m (2 ^ k)
    omega
  rw [roundShift, hr, Nat.shiftRight_eq_div_pow]

theorem mode_cases (mode : BitVec 2) : mode = 0 ∨ mode = 1 ∨ mode = 2 ∨ mode = 3 := by
  revert mode
  decide

section
variable (sign odd : Bool) (rem k n d q : Nat)

/-! What each mode does with a remainder, and what `Rounded` then asks for (R38). -/

theorem roundUp_nearest : roundUp 0 sign odd rem k = true ↔ 2 ^ k < 2 * rem ∨ 2 * rem = 2 ^ k ∧ odd = true := by
  show (decide _ || (decide _ && odd)) = true ↔ _
  simp

theorem roundUp_toZero : roundUp 1 sign odd rem k = false := rfl

theorem roundUp_upward : roundUp 2 sign odd rem k = true ↔ rem ≠ 0 ∧ sign = false := by
  show (decide _ && !sign) = true ↔ _
  simp

theorem roundUp_downward : roundUp 3 sign odd rem k = true ↔ rem ≠ 0 ∧ sign = true := by
  show (decide _ && sign) = true ↔ _
  simp

theorem rounded_nearest : Rounded 0 sign n d q ↔ q * d < n + d ∧ n < q * d + d ∧ 2 * (q * d) ≤ 2 * n + d
    ∧ 2 * n ≤ 2 * (q * d) + d ∧ (2 * (q * d) = 2 * n + d ∨ 2 * n = 2 * (q * d) + d → q % 2 = 0) := Iff.rfl

theorem rounded_toZero : Rounded 1 sign n d q ↔ q * d < n + d ∧ n < q * d + d ∧ q * d ≤ n := Iff.rfl

theorem rounded_upward : Rounded 2 sign n d q ↔
    q * d < n + d ∧ n < q * d + d ∧ if sign then q * d ≤ n else n ≤ q * d := Iff.rfl

theorem rounded_downward : Rounded 3 sign n d q ↔
    q * d < n + d ∧ n < q * d + d ∧ if sign then n ≤ q * d else q * d ≤ n := Iff.rfl

end

/-- The integer that `roundUp` chooses for `q * 2 ^ k + rem` is rounded as the mode says. -/
theorem roundUp_rounded (mode : BitVec 2) (sign : Bool) {q rem k : Nat} (hlt : rem < 2 ^ k) :
    Rounded mode sign (q * 2 ^ k + rem) (2 ^ k)
      (if roundUp mode sign (decide (q % 2 = 1)) rem k then q + 1 else q) := by
  have hq : (q + 1) * 2 ^ k = q * 2 ^ k + 2 ^ k := Nat.succ_mul ..
  rcases mode_cases mode with rfl | rfl | rfl | rfl
  · simp only [rounded_nearest, roundUp_nearest, decide_eq_true_eq]
    split_ifs
    · rw [hq]; omega
    · omega
  · simp only [rounded_toZero, roundUp_toZero, Bool.false_eq_true, if_false]
    omega
  · cases sign
    · simp only [rounded_upward, roundUp_upward, eq_self, and_true, Bool.false_eq_true, if_false]
      split_ifs
      · rw [hq]; omega
      · omega
    · simp only [rounded_upward, roundUp_upward, Bool.true_eq_false, and_false, if_false, if_true]
      omega
  · cases sign
    · simp only [rounded_downward, roundUp_downward, Bool.false_eq_true, and_false, if_false]
      omega
    · simp only [rounded_downward, roundUp_downward, eq_self, and_true, if_true]
      split_ifs
      · rw [hq]; omega
      · omega

theorem roundUp_zero (mode : BitVec 2) (sign odd : Bool) (k : Nat) : roundUp mode sign odd 0 k = false := by
  have hpos := Nat.two_pow_pos k
  rw [Bool.eq_false_iff]
  rcases mode_cases mode with rfl | rfl | rfl | rfl
  · rw [Ne, roundUp_nearest]; omega
  · rw [Ne, roundUp_toZero]; exact Bool.false_ne_true
  · rw [Ne, roundUp_upward]; simp
  · rw [Ne, roundUp_downward]; simp

/-- The rounded quotient, and that it is inexact exactly where something is left over. -/
theorem roundShift_rounded (mode : BitVec 2) (sign : Bool) (m k : Nat) :
    Rounded mode sign m (2 ^ k) (roundShift mode sign m k).1
    ∧ ((roundShift mode sign m k).2 = true ↔ (roundShift mode sign m k).1 * 2 ^ k ≠ m) := by
  obtain ⟨q, rem, rfl, hlt, he⟩ := roundShift_eq mode sign m k
  rw [he]
  refine ⟨roundUp_rounded mode sign hlt, ?_⟩
  have hq : (q + 1) * 2 ^ k = q * 2 ^ k + 2 ^ k := Nat.succ_mul ..
  by_cases hrem : rem = 0
  · subst hrem
    simp [roundUp_zero]
  · simp only [decide_eq_true_eq]
    split_ifs
    · rw [hq]; omega
    · omega

/-! ### A quotient with other terms -/

/-- Rounding depends on the quotient, not on its terms. -/
theorem rounded_scale (mode : BitVec 2) (neg : Bool) (n d q : Nat) {c : Nat} (hc : 0 < c) :
    Rounded mode neg (n * c) (d * c) q ↔ Rounded mode neg n d q := by
  have hqd : q * (d * c) = q * d * c := (Nat.mul_assoc ..).symm
  have hlt : ∀ a b : Nat, a * c < b * c ↔ a < b := fun a b => Nat.mul_lt_mul_right hc
  have hle : ∀ a b : Nat, a * c ≤ b * c ↔ a ≤ b := fun a b => Nat.mul_le_mul_right_iff hc
  have heq : ∀ a b : Nat, a * c = b * c ↔ a = b := fun a b => Nat.mul_left_inj hc.ne'
  unfold Rounded
  rw [hqd]
  generalize q * d = p
  simp only [← Nat.mul_assoc 2, ← Nat.add_mul, hlt, hle, heq]

/-- An integer is rounded to itself. -/
theorem rounded_exact (mode : BitVec 2) (neg : Bool) (q : Nat) {d : Nat} (hd : 0 < d) :
    Rounded mode neg (q * d) d q := by
  rcases mode_cases mode with rfl | rfl | rfl | rfl
  · rw [rounded_nearest]; omega
  · rw [rounded_toZero]; omega
  · rw [rounded_upward, ite_self]; omega
  · rw [rounded_downward, ite_self]; omega

/-- The integer that a single's significand or a flushed result is decided by, as `roundPack` computes it: `m * 2 ^ e` in
units of `2 ^ u`, and whether that is inexact. -/
def roundTo (mode : BitVec 2) (sign : Bool) (m : Nat) (e u : Int) : Nat × Bool :=
  if e < u then roundShift mode sign m (u - e).toNat else (m <<< (e - u).toNat, false)

/-- `m * 2 ^ (e + 149)` as a quotient of integers, in units of `2 ^ k`. -/
theorem roundTo_rounded (mode : BitVec 2) (sign : Bool) (m k : Nat) (e u : Int) (hu : u = k - 149) :
    Rounded mode sign (m * 2 ^ (e + 149).toNat) (2 ^ (-(e + 149)).toNat * 2 ^ k) (roundTo mode sign m e u).1
    ∧ ((roundTo mode sign m e u).2 = true ↔
      (roundTo mode sign m e u).1 * (2 ^ (-(e + 149)).toNat * 2 ^ k) ≠ m * 2 ^ (e + 149).toNat) := by
  rw [← Nat.pow_add]
  have hpos : 0 < 2 ^ (e + 149).toNat := Nat.two_pow_pos _
  by_cases h : e < u
  · have hd : (-(e + 149)).toNat + k = (u - e).toNat + (e + 149).toNat := by omega
    obtain ⟨hr, hx⟩ := roundShift_rounded mode sign m (u - e).toNat
    rw [roundTo, if_pos h, hd, Nat.pow_add]
    refine ⟨(rounded_scale mode sign _ _ _ hpos).2 hr, ?_⟩
    rw [hx, ← Nat.mul_assoc, Ne, Ne, Nat.mul_left_inj hpos.ne']
  · have hd : (e + 149).toNat = (e - u).toNat + ((-(e + 149)).toNat + k) := by omega
    have hn : m * 2 ^ (e + 149).toNat = m * 2 ^ (e - u).toNat * 2 ^ ((-(e + 149)).toNat + k) := by
      rw [hd, Nat.pow_add, Nat.mul_assoc]
    rw [roundTo, if_neg h, Nat.shiftLeft_eq, hn]
    exact ⟨rounded_exact mode sign _ (Nat.two_pow_pos _), by simp⟩

theorem roundPack_eq (mode : BitVec 2) (sign : Bool) (m : Nat) (e : Int) : roundPack mode sign m e =
    let msb : Int := (Nat.log2 m : Int) + e
    let r := roundTo mode sign m e (if -126 ≤ msb then msb - 23 else -149)
    let inx : Word := if r.2 then flagINX else 0
    if -126 ≤ msb then
      let top : Bool := decide (r.1 = 2 ^ 24)
      let ex : Int := msb + 127 + (if top then 1 else 0)
      if 254 < ex then ⟨overflowValue mode sign, flagOVF ||| flagINX⟩
      else ⟨withSign sign (BitVec.ofNat 32 (ex.toNat * 2 ^ 23 + (if top then 0 else r.1 - 2 ^ 23))), inx⟩
    else if r.1 = 0 then ⟨flushedZero sign, flagUNF ||| flagINX⟩
    else if r.1 = 2 ^ 23 then ⟨withSign sign 0x00800000, inx⟩
    else ⟨flushedZero sign, flagOFZ ||| flagUNF ||| flagINX⟩ := rfl

/-! ### The magnitude of an exact value -/

/-- With `m * 2 ^ (e + 149) = n / d` the leading bit of `m` tells between which powers of two the value lies. -/
theorem log2_le_iff {m : Nat} (hm : 0 < m) (e : Int) (j : Nat) :
    2 ^ j * 2 ^ (-(e + 149)).toNat ≤ m * 2 ^ (e + 149).toNat ↔ (j : Int) ≤ Nat.log2 m + (e + 149) := by
  rcases Int.le_total 0 (e + 149) with h | h
  · rw [show (-(e + 149)).toNat = 0 by omega, Nat.pow_zero, Nat.mul_one]
    by_cases hj : j ≤ (e + 149).toNat
    · have hle : 2 ^ j ≤ 2 ^ (e + 149).toNat := Nat.pow_le_pow_right Nat.two_pos hj
      exact iff_of_true (hle.trans (Nat.le_mul_of_pos_left _ hm)) (by omega)
    · rw [show j = (j - (e + 149).toNat) + (e + 149).toNat by omega, Nat.pow_add,
        Nat.mul_le_mul_right_iff (Nat.two_pow_pos _), ← Nat.le_log2 hm.ne']
      omega
  · rw [show (e + 149).toNat = 0 by omega, Nat.pow_zero, Nat.mul_one, ← Nat.pow_add, ← Nat.le_log2 hm.ne']
    omega

/-! ### Singles -/

/-- The word with sign `neg`, exponent field `x` and fraction `f`. -/
theorem packed_fields (neg : Bool) {x f : Nat} (hx : x < 256) (hf : f < 2 ^ 23) :
    let w := withSign neg (BitVec.ofNat 32 (x * 2 ^ 23 + f))
    (w.extractLsb' 23 8).toNat = x ∧ (w.extractLsb' 0 23).toNat = f ∧ w.getLsbD 31 = neg := by
  intro w
  have hw : w.toNat = (if neg then 2 ^ 31 else 0) + (x * 2 ^ 23 + f) := by
    have hv : (BitVec.ofNat 32 (x * 2 ^ 23 + f)).toNat = x * 2 ^ 23 + f := by
      rw [BitVec.toNat_ofNat]
      omega
    cases neg with
    | false => exact hv.trans (Nat.zero_add _).symm
    | true =>
      have hor := Nat.shiftLeft_add_eq_or_of_lt (show x * 2 ^ 23 + f < 2 ^ 31 by omega) 1
      show (BitVec.ofNat 32 (x * 2 ^ 23 + f) ||| 0x80000000).toNat = 2 ^ 31 + (x * 2 ^ 23 + f)
      rw [BitVec.toNat_or, hv, Nat.or_comm]
      exact hor.symm
  refine ⟨?_, ?_, ?_⟩
  · rw [BitVec.extractLsb'_toNat, Nat.shiftRight_eq_div_pow, hw]
    split <;> omega
  · rw [BitVec.extractLsb'_toNat, Nat.shiftRight_eq_div_pow, hw]
    split <;> omega
  · have hm : w.getLsbD 31 = w.msb := (BitVec.msb_eq_getLsbD_last w).symm
    rw [hm, BitVec.msb_eq_decide, hw]
    cases neg
    · simp
      omega
    · simp

theorem packed_magnitude (neg : Bool) {x f : Nat} (h0 : 0 < x) (hx : x < 256) (hf : f < 2 ^ 23) :
    fpMagnitude (withSign neg (BitVec.ofNat 32 (x * 2 ^ 23 + f))) = (2 ^ 23 + f) * 2 ^ (x - 1) := by
  obtain ⟨he, hfr, -⟩ := packed_fields neg hx hf
  rw [fpMagnitude, he, hfr]
  exact if_neg h0.ne'

theorem withSign_or (neg : Bool) (w : Word) : withSign neg w = (if neg then 0x80000000 else 0) ||| w := by
  cases neg
  · exact BitVec.zero_or.symm
  · exact BitVec.or_comm ..

theorem overflowValue_eq (mode : BitVec 2) (neg : Bool) : overflowValue mode neg = (if neg then 0x80000000 else 0) |||
    if mode = 0 ∨ mode = 2 ∧ neg = false ∨ mode = 3 ∧ neg = true then 0x7F800000 else 0x7F7FFFFF := by
  revert mode neg
  decide

/-- Below 2^-126 (R362): rounded to a multiple of 2^-149, and flushed unless that is 2^-126. -/
theorem roundPack_small (mode : BitVec 2) (neg : Bool) {m : Nat} {e : Int} (hm : 0 < m)
    (h : m * 2 ^ (e + 149).toNat < 2 ^ 23 * 2 ^ (-(e + 149)).toNat) :
    ∃ q, Rounded mode neg (m * 2 ^ (e + 149).toNat) (2 ^ (-(e + 149)).toNat) q ∧
      roundPack mode neg m e = if q = 0 then ⟨0, 0x06⟩ else if q < 2 ^ 23 then ⟨0, 0x46⟩
        else ⟨(if neg then 0x80000000 else 0) ||| 0x00800000, 0x02⟩ := by
  have hmsb : ¬-126 ≤ (Nat.log2 m : Int) + e := by
    have := mt (log2_le_iff hm e 23).2 (Nat.not_le.2 h)
    omega
  obtain ⟨hr, hx⟩ := roundTo_rounded mode neg m 0 e (-149) rfl
  rw [Nat.pow_zero, Nat.mul_one] at hr hx
  refine ⟨_, hr, ?_⟩
  rw [roundPack_eq]
  simp only [if_neg hmsb]
  generalize roundTo mode neg m e (-149) = r at *
  by_cases h0 : r.1 = 0
  · rw [if_pos h0, if_pos h0]
    rfl
  rw [if_neg h0, if_neg h0]
  have hle : r.1 ≤ 2 ^ 23 := by
    have hlt : r.1 * 2 ^ (-(e + 149)).toNat < (2 ^ 23 + 1) * 2 ^ (-(e + 149)).toNat := by
      have := hr.1
      omega
    exact Nat.lt_succ_iff.1 (Nat.lt_of_mul_lt_mul_right hlt)
  by_cases hq : r.1 = 2 ^ 23
  · have hinx : r.2 = true := hx.2 (by rw [hq]; exact h.ne')
    rw [if_pos hq, if_pos hinx, if_neg (show ¬r.1 < 2 ^ 23 by omega), withSign_or]
    rfl
  · rw [if_neg hq, if_pos (by omega)]
    rfl

/-- A significand rounded to 24 bits, with the exponent field and fraction that `roundPack` makes of it: a carry out of
the 24 bits raises the exponent. It is out of range exactly when its exponent field is above 254. -/
theorem significand_fields {q k x f : Nat} (hlo : 2 ^ 23 ≤ q) (hhi : q ≤ 2 ^ 24)
    (hx : x = k + 1 + if q = 2 ^ 24 then 1 else 0) (hf : f = if q = 2 ^ 24 then 0 else q - 2 ^ 23) :
    f < 2 ^ 23 ∧ (2 ^ 23 + f) * 2 ^ (x - 1) = q * 2 ^ k ∧ (x ≤ 254 ↔ q * 2 ^ k < 2 ^ 277) := by
  have hf23 : f < 2 ^ 23 := by
    split_ifs at hf <;> omega
  have hmag : (2 ^ 23 + f) * 2 ^ (x - 1) = q * 2 ^ k := by
    by_cases hq : q = 2 ^ 24
    · rw [if_pos hq] at hx hf
      rw [hx, hf, hq, Nat.add_sub_cancel, Nat.pow_succ]
      omega
    · rw [if_neg hq] at hx hf
      rw [hx, hf, Nat.add_zero, Nat.add_sub_cancel, Nat.add_sub_of_le hlo]
  refine ⟨hf23, hmag, ?_⟩
  rw [← hmag]
  constructor
  · intro h
    calc (2 ^ 23 + f) * 2 ^ (x - 1) < 2 ^ 24 * 2 ^ (x - 1) :=
          Nat.mul_lt_mul_of_pos_right (by omega) (Nat.two_pow_pos _)
      _ ≤ 2 ^ 24 * 2 ^ 253 := Nat.mul_le_mul_left _ (Nat.pow_le_pow_right Nat.two_pos (by omega))
      _ = 2 ^ 277 := by rw [show 277 = 24 + 253 from rfl, Nat.pow_add]
  · intro h
    by_contra hgt
    refine absurd h (Nat.not_lt.2 ?_)
    calc 2 ^ 277 = 2 ^ 23 * 2 ^ 254 := by rw [show 277 = 23 + 254 from rfl, Nat.pow_add]
      _ ≤ (2 ^ 23 + f) * 2 ^ (x - 1) :=
          Nat.mul_le_mul (by omega) (Nat.pow_le_pow_right Nat.two_pos (by omega))

/-- A quotient between `2 ^ 23` and `2 ^ 24` is rounded to an integer between them. -/
theorem rounded_bounds {mode : BitVec 2} {neg : Bool} {n d q : Nat} (hr : Rounded mode neg n d q)
    (hlo : 2 ^ 23 * d ≤ n) (hhi : n < 2 ^ 24 * d) : 2 ^ 23 ≤ q ∧ q ≤ 2 ^ 24 := by
  obtain ⟨habove, hbelow, -⟩ := hr
  have h1 : 2 ^ 23 * d < (q + 1) * d := by rw [Nat.succ_mul]; omega
  have h2 : q * d < (2 ^ 24 + 1) * d := by rw [Nat.succ_mul]; omega
  exact ⟨Nat.lt_succ_iff.1 (Nat.lt_of_mul_lt_mul_right h1), Nat.lt_succ_iff.1 (Nat.lt_of_mul_lt_mul_right h2)⟩

/-- From 2^-126 on (R364): rounded to 24 significant bits, `k` being the exponent of the last one in units of 2^-149. -/
theorem roundPack_normal (mode : BitVec 2) (neg : Bool) {m k : Nat} {e : Int} (hm : 0 < m)
    (hlo : 2 ^ (23 + k) * 2 ^ (-(e + 149)).toNat ≤ m * 2 ^ (e + 149).toNat)
    (hhi : m * 2 ^ (e + 149).toNat < 2 ^ (24 + k) * 2 ^ (-(e + 149)).toNat) :
    ∃ q, Rounded mode neg (m * 2 ^ (e + 149).toNat) (2 ^ (-(e + 149)).toNat * 2 ^ k) q ∧
      if q * 2 ^ k < 2 ^ 277 then
        fpMagnitude (roundPack mode neg m e).value = q * 2 ^ k ∧ (roundPack mode neg m e).value.getLsbD 31 = neg
        ∧ (roundPack mode neg m e).flags =
          if q * (2 ^ (-(e + 149)).toNat * 2 ^ k) = m * 2 ^ (e + 149).toNat then 0 else 0x02
      else
        (roundPack mode neg m e).flags = 0x0A ∧ (roundPack mode neg m e).value = (if neg then 0x80000000 else 0) |||
          if mode = 0 ∨ mode = 2 ∧ neg = false ∨ mode = 3 ∧ neg = true then 0x7F800000 else 0x7F7FFFFF := by
  have hmsb : (Nat.log2 m : Int) + e = k - 126 := by
    have h1 := (log2_le_iff hm e (23 + k)).1 hlo
    have h2 := mt (log2_le_iff hm e (24 + k)).2 (Nat.not_le.2 hhi)
    omega
  have hpack := roundPack_eq mode neg m e
  have hu : (k : Int) - 126 - 23 = k - 149 := by omega
  simp only [hmsb, if_pos (show (-126 : Int) ≤ k - 126 by omega), hu] at hpack
  obtain ⟨hr, hx⟩ := roundTo_rounded mode neg m k e (k - 149) rfl
  rw [Nat.pow_add, Nat.mul_assoc, Nat.mul_comm (2 ^ k)] at hlo hhi
  obtain ⟨h23, h24⟩ := rounded_bounds hr hlo hhi
  generalize roundTo mode neg m e (k - 149) = r at *
  obtain ⟨x, hxe⟩ : ∃ x, x = k + 1 + if r.1 = 2 ^ 24 then 1 else 0 := ⟨_, rfl⟩
  obtain ⟨f, hfe⟩ : ∃ f, f = if r.1 = 2 ^ 24 then 0 else r.1 - 2 ^ 23 := ⟨_, rfl⟩
  obtain ⟨hf, hmag, hrange⟩ := significand_fields h23 h24 hxe hfe
  refine ⟨_, hr, ?_⟩
  rw [hpack]
  have hex : (k : Int) - 126 + 127 + (if r.1 = 2 ^ 24 then 1 else 0) = x := by
    rw [hxe]
    split_ifs <;> omega
  have h254 : ((254 : Int) < x) ↔ ¬x ≤ 254 := by omega
  simp only [decide_eq_true_eq, hex, ← hfe, Int.toNat_natCast, ← hrange, h254]
  by_cases hle : x ≤ 254
  · rw [if_pos hle, if_neg (not_not.2 hle)]
    have hx0 : 0 < x := by omega
    refine ⟨(packed_magnitude neg hx0 (by omega) hf).trans hmag, (packed_fields neg (by omega) hf).2.2, ?_⟩
    by_cases hinx : r.2 = true
    · rw [if_neg (hx.1 hinx)]
      exact if_pos hinx
    · rw [if_pos (not_not.1 (mt hx.2 hinx))]
      exact if_neg hinx
  · rw [if_neg hle, if_pos hle]
    exact ⟨rfl, overflowValue_eq mode neg⟩

/-- Settles O57: what `roundShift` chooses is `roundShift_rounded`, read off mode by mode; a single's rounding is
`roundPack_small` below 2^-126 and `roundPack_normal` above. -/
theorem roundingChoosesByMode : Obligations.RoundingChoosesByMode := by
  intro mode sign m k
  obtain ⟨hr, hx⟩ := roundShift_rounded mode sign m k
  refine ⟨hx, hr.1, hr.2.1, ?_, ?_, ?_, ?_, fun e hm => ⟨roundPack_small mode sign hm, fun k hlo hhi =>
    roundPack_normal mode sign hm hlo hhi⟩⟩
  · rintro rfl
    obtain ⟨-, -, hup, hdown, heven⟩ := (rounded_nearest ..).1 hr
    exact ⟨hup, hdown, fun _ => heven⟩
  · rintro rfl
    exact ((rounded_toZero ..).1 hr).2.2
  · rintro rfl
    exact ((rounded_upward ..).1 hr).2.2
  · rintro rfl
    exact ((rounded_downward ..).1 hr).2.2

end Sys2Proof.Machine
end

section
/-! SUPPORT. What single operations do to the data cache: which element a lookup finds afterwards and what a byte reads
as, with no agreement of cache and memory assumed; and what they leave alone. With the statements about the LRU bits and the
reads of tags and status. -/
namespace Sys2Proof.Machine

/-! ### Bytes as the core sees them -/

theorem viewAt_hit {s : State} {a : Word} {e : Fin 8} (h : s.dFind a = some e) : s.viewAt a = s.lineByte a e := by
  unfold State.viewAt State.viewByte
  rw [show s.dcache[dSet a].find (dTag a) = some e from h]
  rfl

theorem viewAt_miss {s : State} {a : Word} (h : s.dFind a = none) :
    s.viewAt a = s.lowerByte (blockOf a) (blockOffset a) := by
  unfold State.viewAt State.viewByte
  rw [show s.dcache[dSet a].find (dTag a) = none from h, dBlock_of_address]

/-- Below the cache, without a copyback buffer, a byte is that of SDRAM. -/
theorem lowerByte_drained {s : State} (h : s.copyback = []) (a : Word) :
    s.lowerByte (blockOf a) (blockOffset a) = s.mem.read a.toNat := by
  unfold State.lowerByte
  rw [h]
  show s.mem.read (blockBase (blockOf a) + BitVec.ofNat 32 (blockOffset a).val).toNat = _
  rw [blockBase_add_offset]

/-- A byte reads as before where SDRAM has it as before and a cached access sees it as before. -/
theorem readByte_congr_at {s t : State} (hc : s.SameCore t) {b : Word} (hm : t.mem.read b.toNat = s.mem.read b.toNat)
    (hv : t.viewAt b = s.viewAt b) : t.readByte b = s.readByte b := by
  have hr := region_of_core hc b
  cases h : s.region b with
  | dramCached => rw [readByte_cached h, readByte_cached (hr.trans h)]; exact hv
  | dramUncached => rw [readByte_uncached h, readByte_uncached (hr.trans h), hm]
  | _ =>
    rw [readByte_elsewhere (s := s) (by simp [h]) (by simp [h]),
      readByte_elsewhere (s := t) (by simp [hr, h]) (by simp [hr, h])]

/-- With the same cached blocks and copyback buffers, a byte that SDRAM has as before is seen as before. -/
theorem viewAt_congr {s t : State} (hd : t.dcache = s.dcache) (hc : t.copyback = s.copyback) {b : Word}
    (hm : t.mem.read b.toNat = s.mem.read b.toNat) : t.viewAt b = s.viewAt b := by
  have hf : t.dFind b = s.dFind b := by simp only [State.dFind, hd]
  cases h : s.dFind b with
  | some e => rw [viewAt_hit h, viewAt_hit (hf.trans h), State.lineByte, State.lineByte, hd]
  | none =>
    rw [viewAt_miss h, viewAt_miss (hf.trans h)]
    unfold State.lowerByte
    rw [hc, blockBase_add_offset, hm]

/-! ### Lookups -/

/-- The lookup finds an element that matches where no other one does. -/
theorem find_of_only {n : Nat} {c : CacheSet n} {t : BitVec n} {e : Fin 8} (hv : c.lines[e].valid = true)
    (ht : c.lines[e].tag = t) (h : ∀ f : Fin 8, f ≠ e → c.lines[f].valid = true → c.lines[f].tag ≠ t) :
    c.find t = some e := by
  cases hf : c.find t with
  | none => exact absurd ht (find_none.1 hf e hv)
  | some f =>
    obtain ⟨hv', ht'⟩ := find_some hf
    by_contra hne
    exact h f (fun he => hne (by rw [he])) hv' ht'

theorem find_isSome_of {n : Nat} {c : CacheSet n} {t : BitVec n} {e : Fin 8} (hv : c.lines[e].valid = true)
    (ht : c.lines[e].tag = t) : (c.find t).isSome = true := by
  rw [Option.isSome_iff_ne_none]
  exact fun h => find_none.1 h e hv ht

theorem place_find_isSome (s : State) (k : Fin 32) (e : Fin 8) (t : BitVec 21) (dirty : Bool) (d : Block) :
    ((s.place k e t dirty d).dcache[k].find t).isSome = true := by
  apply find_isSome_of (e := e) <;> rw [place_lines, if_pos ⟨rfl, rfl⟩]

/-- A block placed where its tag was not is found in the element it was placed in. -/
theorem place_find {s : State} {k : Fin 32} {t : BitVec 21} (e : Fin 8) (dirty : Bool) (d : Block)
    (h : s.dcache[k].find t = none) : (s.place k e t dirty d).dcache[k].find t = some e := by
  apply find_of_only
  · rw [place_lines, if_pos ⟨rfl, rfl⟩]
  · rw [place_lines, if_pos ⟨rfl, rfl⟩]
  · intro f hf
    rw [place_lines, if_neg (fun hc => hf hc.2)]
    exact find_none.1 h f

theorem fill_finds {s : State} {a : Word} (h : s.dFind a = none) : (s.fill a).2.dFind a = some (s.fill a).1 :=
  place_find _ _ _ (by rw [takeVictim_dcache]; exact h)

/-- A cached access answers the element that then holds the block. -/
theorem dAccess_finds (s : State) (a : Word) (miss : Fin 16) :
    (s.dAccess a miss).2.dFind a = some (s.dAccess a miss).1 := by
  cases h : s.dFind a with
  | some e =>
    rw [dAccess_hit miss h, ← h]
    exact find_congr _ fun f => by
      rw [show (s.setDSet (dSet a) (s.dcache[dSet a].reference e)).dcache[dSet a].lines[f] = _ from reference_lines ..]
      exact ⟨rfl, rfl⟩
  | none =>
    rw [dAccess_miss miss h]
    exact fill_finds (s := (s.cacheEvent miss).startFetch (blockOf a) false) h

/-! ### Blocks brought into the cache -/

/-- Making room in a set changes no block below the cache that is not in the set. -/
theorem takeVictim_lowerByte_absent {s : State} {k : Fin 32} {t : BitVec 21} (h : s.dcache[k].find t = none)
    (i : Fin 64) : (s.takeVictim k).2.lowerByte (dBlock k t) i = s.lowerByte (dBlock k t) i := by
  rw [takeVictim_lowerByte rfl, if_neg]
  rintro ⟨hv, -, hb⟩
  exact find_none.1 h _ hv (dBlock_inj hb).2

/-- The element that a fill answers has the bytes that were below the cache. -/
theorem fill_data {s : State} {a : Word} (h : s.dFind a = none) (i : Fin 64) :
    (s.fill a).2.dcache[dSet a].lines[(s.fill a).1].data[i] = s.lowerByte (blockOf a) i := by
  have hl : (s.fill a).2.dcache[dSet a].lines[(s.fill a).1] = _ := place_lines ..
  rw [hl, if_pos ⟨rfl, rfl⟩, lowerBlock_get, ← dBlock_of_address, takeVictim_lowerByte_absent h]

/-- A cached access answers the element in which every byte of its block is as it was seen before. -/
theorem dAccess_lineByte (s : State) {a c : Word} (miss : Fin 16) (hc : blockOf c = blockOf a) :
    (s.dAccess a miss).2.lineByte c (s.dAccess a miss).1 = s.viewAt c := by
  have hk : dSet c = dSet a := by
    rw [← dBlock_of_address, ← dBlock_of_address] at hc
    exact (dBlock_inj hc).1
  cases h : s.dFind a with
  | some e =>
    rw [dAccess_hit miss h, viewAt_hit ((dFind_block hc).trans h)]
    exact congrArg (fun l : Line 21 => l.data[blockOffset c]) (reference_lines ..)
  | none =>
    rw [dAccess_miss miss h, viewAt_miss ((dFind_block hc).trans h), hc]
    simp only [State.lineByte, hk]
    exact fill_data (s := (s.cacheEvent miss).startFetch (blockOf a) false) h _

/-! ### What an access changes -/

theorem takeVictim_frame (s : State) (k : Fin 32) : (s.takeVictim k).2 = { s with
    copyback := (s.takeVictim k).2.copyback
    cacheEvents := (s.takeVictim k).2.cacheEvents
    freeCount := (s.takeVictim k).2.freeCount } := by
  unfold State.takeVictim State.evict State.drawNat State.drawn State.cacheEvent State.countEvent
  dsimp only
  split_ifs <;> rfl

theorem dAccess_frame (s : State) (a : Word) (miss : Fin 16) : (s.dAccess a miss).2 = { s with
    dcache := (s.dAccess a miss).2.dcache
    copyback := (s.dAccess a miss).2.copyback
    fetches := (s.dAccess a miss).2.fetches
    cacheEvents := (s.dAccess a miss).2.cacheEvents
    freeCount := (s.dAccess a miss).2.freeCount } := by
  cases h : s.dFind a with
  | some e => rw [dAccess_hit miss h]; rfl
  | none => rw [dAccess_miss miss h, fill_frame]; rfl

theorem setLineBytes_frame (s : State) (a : Word) (e : Fin 8) (bs : List Byte) :
    s.setLineBytes a e bs = { s with dcache := (s.setLineBytes a e bs).dcache } := by
  induction bs generalizing s a with
  | nil => rfl
  | cons b bs ih =>
    rw [State.setLineBytes, ih]
    rfl

/-! ### Cache events -/

theorem countEvent_get (s : State) (k j : Fin 16) (n : Nat) :
    (s.countEvent k n).cacheEvents[j] = s.cacheEvents[j] + if j = k then n else 0 := by
  show (s.cacheEvents.set k (s.cacheEvents[k] + n))[j.val] = _
  rw [Vector.getElem_set]
  by_cases h : k = j
  · simp [h]
  · rw [if_neg (fun e => h (Fin.ext e)), if_neg (fun e => h e.symm)]
    rfl

theorem evict_events (s : State) (k : Fin 32) (e : Fin 8) {j : Fin 16} (hj : j ≠ 7) :
    (s.evict k e).cacheEvents[j] = s.cacheEvents[j] := by
  unfold State.evict
  dsimp only
  split
  · exact (countEvent_get ..).trans (by rw [if_neg hj]; rfl)
  · rfl

/-- A fill counts at most copybacks. -/
theorem fill_events (s : State) (a : Word) {j : Fin 16} (hj : j ≠ 7) : (s.fill a).2.cacheEvents[j] = s.cacheEvents[j] := by
  show (s.takeVictim (dSet a)).2.cacheEvents[j] = _
  obtain ⟨u, rfl | rfl, h⟩ := takeVictim_eq s (dSet a) <;> rw [h, evict_events _ _ _ hj]
  rfl

/-- Beside copybacks, a cached access counts its miss. -/
theorem dAccess_events (s : State) (a : Word) {miss : Fin 16} (hm : miss ≠ 7) :
    (s.dAccess a miss).2.cacheEvents[miss] = s.cacheEvents[miss] + if s.dFind a = none then 1 else 0 := by
  cases h : s.dFind a with
  | some e => rw [dAccess_hit miss h]; rfl
  | none =>
    rw [dAccess_miss miss h, fill_events _ _ hm]
    exact (countEvent_get ..).trans (by simp)

/-! ### The LRU bits (R146, R147) -/

/-- A reference makes the two-way bit of its pair point to the other element. -/
theorem reference_way (l : Lru) (e : Fin 8) : (l.reference e).way.getLsbD (e.val / 2) = decide (e.val % 2 = 0) := by
  fin_cases e <;> simp [Lru.reference]

theorem pair_lt (l : Lru) : l.pair < 4 := by
  unfold Lru.pair
  split_ifs <;> decide

theorem victim_val (l : Lru) : l.victim.val = l.pair * 2 + if l.way.getLsbD l.pair then 1 else 0 := by
  have := pair_lt l
  refine Nat.mod_eq_of_lt ?_
  split <;> omega

/-- The victim is the element that the two-way bit of its pair points to, which a reference to it has just changed. -/
theorem reference_victim_ne (l : Lru) (e : Fin 8) : (l.reference e).victim ≠ e := by
  intro h
  have hv := victim_val (l.reference e)
  rw [h] at hv
  have hp : (l.reference e).pair = e.val / 2 := by split at hv <;> omega
  rw [hp, reference_way] at hv
  by_cases hq : e.val % 2 = 0 <;> simp [hq] at hv <;> omega

/-- Settles O46: by the two-way bits, and for the eight victims after reset by running them. -/
theorem lruNeverEvictsTheLastReferenced : Obligations.LruNeverEvictsTheLastReferenced :=
  ⟨reference_victim_ne, by decide⟩

/-! ### Tags and status (R153, R154) -/

theorem statusWord_high (s : State) (a : Word) : (s.statusWord a).extractLsb' 18 14 = 0 := by
  unfold State.statusWord
  ext j hj
  simp only [BitVec.getElem_extractLsb', BitVec.getLsbD_append]
  simp [show ¬18 + j < 10 by omega, show ¬18 + j - 10 < 8 by omega]

theorem statusWord_dirty (s : State) (a : Word) (e : Fin 8) :
    (s.statusWord a).getLsbD (10 + e) = s.dcache[dSet a].lines[e].dirty := by
  unfold State.statusWord
  simp only [BitVec.getLsbD_append, bitsOf_getLsbD]
  simp [show ¬10 + e.val < 10 by omega]

theorem statusWord_lru (s : State) (a : Word) : (s.statusWord a).extractLsb' 0 10 = s.dcache[dSet a].lru.image := by
  unfold State.statusWord
  ext j hj
  simp only [BitVec.getElem_extractLsb', BitVec.getLsbD_append]
  simp [hj, BitVec.getLsbD_eq_getElem]

/-- The fields of a word of `h` zeros, a valid bit and a tag. -/
theorem tagFields {h n : Nat} (v : BitVec 1) (t : BitVec n) : ((0 : BitVec h) ++ v ++ t).extractLsb' (n + 1) h = 0
    ∧ ((0 : BitVec h) ++ v ++ t).getLsbD n = v.getLsbD 0 ∧ ((0 : BitVec h) ++ v ++ t).extractLsb' 0 n = t := by
  refine ⟨?_, ?_, ?_⟩
  · ext j hj
    simp only [BitVec.getElem_extractLsb', BitVec.getLsbD_append]
    simp [show ¬n + 1 + j < n by omega, show ¬n + 1 + j - n < 1 by omega]
  · rw [BitVec.getLsbD_append, BitVec.getLsbD_append]
    simp
  · ext j hj
    simp only [BitVec.getElem_extractLsb', BitVec.getLsbD_append]
    simp [hj, BitVec.getLsbD_eq_getElem]

/-- What rdtag reads of an element, and that only a free value may have been drawn. -/
theorem tagWord_spec (s : State) (a : Word) :
    let l := s.dcache[dSet a].lines[(a.extractLsb' 11 3).toFin]
    (s.tagWord a).2 = { s with freeCount := (s.tagWord a).2.freeCount } ∧ (s.tagWord a).1.extractLsb' 22 10 = 0
      ∧ (s.tagWord a).1.getLsbD 21 = l.valid ∧ (l.valid = true → (s.tagWord a).1.extractLsb' 0 21 = l.tag) := by
  intro l
  unfold State.tagWord
  dsimp only
  split
  · next h =>
    obtain ⟨h1, h2, h3⟩ := tagFields (h := 10) 1 l.tag
    exact ⟨rfl, h1, h2.trans h.symm, fun _ => h3⟩
  · next h =>
    obtain ⟨h1, h2, -⟩ := tagFields (h := 10) 0 ((Config.freeWord s.freeCount).extractLsb' 0 21)
    exact ⟨rfl, h1, h2.trans (Bool.eq_false_of_not_eq_true h).symm, fun hv => absurd hv h⟩

/-- Settles O44: the fields of the words that `statusWord` and `tagWord` put together. -/
theorem tagAndStatusReads : Obligations.TagAndStatusReads := by
  intro g s1 d m s a l
  refine ⟨⟨_, issueValue_eq .., statusWord_high s a, statusWord_dirty s a, statusWord_lru s a⟩, fun hg => ?_⟩
  obtain ⟨h1, h2, h3, h4⟩ := tagWord_spec s a
  refine ⟨(s.tagWord a).2.issueResult d (s.tagWord a).1 3, (s.tagWord a).1, if_pos hg, ?_, h2, h3, h4⟩
  rw [h1]
  rfl

end Sys2Proof.Machine
end

section
/-! SUPPORT. Allocate, prefetch and the end of an outstanding fetch, with the statements about them. -/
namespace Sys2Proof.Machine

/-! ### Allocate (R155) -/

/-- A block placed over itself: every other block reads as before. -/
theorem place_over_itself {s : State} {k : Fin 32} {e : Fin 8} {t : BitVec 21} (dirty : Bool) (d : Block)
    (h : s.dcache[k].find t = some e) {k' : Fin 32} {t' : BitVec 21} (hne : (k', t') ≠ (k, t)) (i : Fin 64) :
    (s.place k e t dirty d).viewByte k' t' i = s.viewByte k' t' i := by
  obtain ⟨hv, ht⟩ := find_some h
  have hf : (s.place k e t dirty d).dcache[k'].find t' = s.dcache[k'].find t' := find_congr _ fun f => by
    rw [place_lines]
    split
    · next hc => rw [hc.1, hc.2]; exact ⟨hv.symm, ht.symm⟩
    · exact ⟨rfl, rfl⟩
  unfold State.viewByte
  rw [hf]
  cases hs : s.dcache[k'].find t' with
  | some f =>
    simp only
    rw [place_lines, if_neg]
    rintro ⟨rfl, rfl⟩
    exact hne (by rw [← (find_some hs).2, ht])
  | none => rfl

/-- A block of a cached access is named by its set and tag. -/
theorem viewAt_congr_block {s t : State} {a b : Word} (hb : blockOf b ≠ blockOf a)
    (h : ∀ k' t' i, (k', t') ≠ (dSet a, dTag a) → t.viewByte k' t' i = s.viewByte k' t' i) : t.viewAt b = s.viewAt b := by
  refine h _ _ _ fun he => hb ?_
  obtain ⟨hk, ht⟩ := Prod.mk.inj he
  rw [← dBlock_of_address, ← dBlock_of_address, hk, ht]

theorem allocBlock_elsewhere {s : State} {a : Word} (h : s.region a ≠ .dramCached) : s.allocBlock a = s := by
  unfold State.allocBlock
  split
  · contradiction
  · rfl

theorem allocBlock_hit {s : State} {a : Word} {e : Fin 8} (hr : s.region a = .dramCached) (h : s.dFind a = some e) :
    s.allocBlock a =
      s.drawn.place (dSet a) e (dTag a) (Config.freeBool s.freeCount) (freeBlock s.freeCount) := by
  unfold State.allocBlock
  rw [hr, h]

theorem allocBlock_miss {s : State} {a : Word} (hr : s.region a = .dramCached) (h : s.dFind a = none) :
    s.allocBlock a = (s.takeVictim (dSet a)).2.drawn.place (dSet a) (s.takeVictim (dSet a)).1 (dTag a)
      (Config.freeBool (s.takeVictim (dSet a)).2.freeCount) (freeBlock (s.takeVictim (dSet a)).2.freeCount) := by
  unfold State.allocBlock
  rw [hr, h]

/-- Allocate changes nothing but the data cache and what goes with it, the block is there afterwards, and where cache and
memory agreed every other block reads as before. -/
theorem allocBlock_spec {s : State} {a : Word} (hr : s.region a = .dramCached) :
    s.SameButCache (s.allocBlock a) ∧ ((s.allocBlock a).dFind a).isSome = true
      ∧ (s.Coherent → ∀ b, blockOf b ≠ blockOf a → (s.allocBlock a).viewAt b = s.viewAt b) := by
  cases h : s.dFind a with
  | some e =>
    rw [allocBlock_hit hr h]
    exact ⟨rfl, place_find_isSome .., fun _ b hb => viewAt_congr_block hb fun _ _ i hne =>
      place_over_itself (s := s.drawn) _ _ h hne i⟩
  | none =>
    rw [allocBlock_miss hr h]
    refine ⟨?_, place_find_isSome .., fun hs b hb => viewAt_congr_block hb ?_⟩
    · rw [takeVictim_frame]
      rfl
    · exact (place_over_victim s (s.takeVictim (dSet a)).2.drawn (dSet a) _ (dTag a) _ _ hs rfl h
        (takeVictim_dcache ..) fun _ _ => rfl).2.1

theorem allocForms_of {g s1 s2 : Reg} {m : Int} {s : State} {P : Instr → Word → Prop}
    (h : ∀ i a, exec i s = guarded g s (fun s => .next (s.allocBlock a)) → P i a) : AllocForms g s1 s2 m s P :=
  ⟨h _ _ rfl, h _ _ rfl, h _ _ rfl, h _ _ rfl⟩

/-- Settles O40: the block is placed in the element that has it, or over a victim. -/
theorem allocatePutsBlockInCache : Obligations.AllocatePutsBlockInCache := by
  intro g s1 s2 m s
  refine allocForms_of fun i a he hg => ⟨fun hr => ?_, fun hr => ?_⟩
  · rw [he, guarded, if_pos hg, allocBlock_elsewhere hr]
  · obtain ⟨hs, hf, hv⟩ := allocBlock_spec hr
    refine ⟨_, he.trans (if_pos hg), hs, hf, fun hc b hb => ?_⟩
    have hm : (s.allocBlock a).mem = s.mem := by rw [hs]
    exact readByte_congr_at (allocBlock_quiet s a).core (by rw [hm]) (hv hc b hb)

/-! ### Prefetch (R156) -/

theorem prefetchBlock_elsewhere {s : State} {a : Word} (h : s.region a ≠ .dramCached) : s.prefetchBlock a = s := by
  unfold State.prefetchBlock
  split
  · contradiction
  · rfl

theorem prefetchBlock_hit {s : State} {a : Word} {e : Fin 8} (hr : s.region a = .dramCached) (h : s.dFind a = some e) :
    s.prefetchBlock a = s.cacheEvent 13 := by
  unfold State.prefetchBlock
  rw [hr, h]

theorem startFetch_new {s : State} {b : BitVec 26} (p : Bool) (hl : s.fetches.length < 2)
    (hn : ∀ f ∈ s.fetches, f.block ≠ b) : (s.startFetch b p).fetches = ⟨b, p⟩ :: s.fetches := by
  have hf : s.fetches.filter (fun f => decide (f.block ≠ b)) = s.fetches :=
    List.filter_eq_self.2 fun f h => by simpa using hn f h
  show (⟨b, p⟩ :: s.fetches.filter fun f => decide (f.block ≠ b)).take 2 = _
  rw [hf]
  exact List.take_of_length_le (by simp only [List.length_cons]; omega)

/-- A prefetch of a block that is not in the cache draws at most a free choice, and begins at most the block's fetch. -/
theorem prefetchBlock_miss {s : State} {a : Word} (hr : s.region a = .dramCached) (h : s.dFind a = none) :
    s.prefetchBlock a = { s with fetches := (s.prefetchBlock a).fetches, freeCount := (s.prefetchBlock a).freeCount }
      ∧ ((s.prefetchBlock a).fetches = s.fetches
        ∨ s.fetches.length < 2 ∧ (s.prefetchBlock a).fetches = ⟨blockOf a, true⟩ :: s.fetches) := by
  unfold State.prefetchBlock
  rw [hr, h]
  dsimp only
  split
  · exact ⟨rfl, .inl rfl⟩
  · next hc =>
    simp only [Bool.or_eq_true, decide_eq_true_eq, List.any_eq_true, not_or, not_exists, not_and, not_le] at hc
    split
    · exact ⟨rfl, .inr ⟨hc.1, startFetch_new (s := s.drawn) true hc.1 hc.2⟩⟩
    · exact ⟨rfl, .inl rfl⟩

/-- A prefetch leaves SDRAM, the data cache and its copyback buffers alone. -/
theorem prefetchBlock_spec {s : State} {a : Word} (hr : s.region a = .dramCached) :
    s.prefetchBlock a = { s with
        fetches := (s.prefetchBlock a).fetches
        cacheEvents := (s.prefetchBlock a).cacheEvents
        freeCount := (s.prefetchBlock a).freeCount }
      ∧ ((s.prefetchBlock a).fetches = s.fetches ∨ s.dFind a = none ∧ s.fetches.length < 2
        ∧ (s.prefetchBlock a).fetches = ⟨blockOf a, true⟩ :: s.fetches)
      ∧ (s.prefetchBlock a).cacheEvents[13] = s.cacheEvents[13] + if (s.dFind a).isSome then 1 else 0 := by
  cases h : s.dFind a with
  | some e =>
    rw [prefetchBlock_hit hr h]
    exact ⟨rfl, .inl rfl, countEvent_get s 13 13 1⟩
  | none =>
    obtain ⟨hp, hf⟩ := prefetchBlock_miss hr h
    refine ⟨?_, hf.imp id fun hn => ⟨rfl, hn⟩, ?_⟩ <;> rw [hp]
    rfl

/-- Where cache and memory agreed, they agree in a state with the same SDRAM, cached blocks and copyback buffers, and
every byte reads as before. -/
theorem sameBytes_of_same {s t : State} (hc : s.SameCore t) (hm : t.mem = s.mem) (hd : t.dcache = s.dcache)
    (hb : t.copyback = s.copyback) (hs : s.Coherent) : t.Coherent ∧ s.SameBytes t :=
  ⟨coherent_congr hs hm hb fun _ _ => by rw [hd],
    fun b => readByte_congr_at hc (by rw [hm]) (viewAt_congr hd hb (by rw [hm]))⟩

theorem blockOf_blockBase (k : BitVec 26) : blockOf (blockBase k) = k := by
  unfold blockOf blockBase
  ext j hj
  simp only [BitVec.getElem_extractLsb', BitVec.getLsbD_append]
  simp [hj, BitVec.getLsbD_eq_getElem]

theorem blockBase_blockOf (a : Word) : blockBase (blockOf a) = a &&& 0xFFFFFFC0 := by
  rw [show (0xFFFFFFC0 : Word) = BitVec.allOnes 32 <<< 6 from rfl]
  unfold blockBase blockOf
  ext j hj
  simp only [BitVec.getElem_append, BitVec.getElem_and, BitVec.getElem_shiftLeft, BitVec.getElem_allOnes,
    BitVec.getElem_extractLsb']
  split
  · next h => simp [h]
  · next h => simp [h, show 6 + (j - 6) = j by omega, BitVec.getLsbD_eq_getElem, hj]

/-- When the oldest fetch is a prefetch of a block that is still cacheable, the block is in the cache afterwards. -/
theorem finishFetch_brings {s : State} {b : BitVec 26} {fs : List Fetch} (h : s.fetches = fs ++ [⟨b, true⟩])
    (hr : s.region (blockBase b) = .dramCached) : (s.finishFetch.dFind (blockBase b)).isSome = true := by
  cases hn : s.dFind (blockBase b) with
  | none =>
    have heq : s.finishFetch = ({ s with fetches := fs }.fill (blockBase b)).2 := by simp [State.finishFetch, h, hr, hn]
    rw [heq, fill_finds (s := { s with fetches := fs }) hn]
    rfl
  | some e =>
    have heq : s.finishFetch = { s with fetches := fs } := by simp [State.finishFetch, h, hn]
    rw [heq]
    exact Option.isSome_iff_exists.2 ⟨e, hn⟩

theorem prefetchForms_of {g s1 s2 : Reg} {m : Int} {s : State} {P : Instr → Word → Prop}
    (h : ∀ i a, exec i s = guarded g s (fun s => .next (s.prefetchBlock a)) → P i a) : PrefetchForms g s1 s2 m s P :=
  ⟨h _ _ rfl, h _ _ rfl, h _ _ rfl, h _ _ rfl, h _ _ rfl⟩

/-- Settles O41: a prefetch touches no byte, and the end of a fetch is a fill, which no byte notices. -/
theorem prefetchLeavesMemoryUnchanged : Obligations.PrefetchLeavesMemoryUnchanged := by
  refine ⟨fun g s1 s2 m s => prefetchForms_of fun i a he hg => ⟨fun hr => ?_, fun hr => ?_⟩, fun s hp => ?_⟩
  · rw [he, guarded, if_pos hg, prefetchBlock_elsewhere hr]
  · obtain ⟨hs, hf, hn⟩ := prefetchBlock_spec hr
    refine ⟨_, he.trans (if_pos hg), hs, hf, hn, sameBytes_of_same (prefetchBlock_quiet s a).core ?_ ?_ ?_⟩ <;> rw [hs]
  · have hcore := (finishFetch_quiet s).core
    have hframe := finishFetch_frame s
    refine ⟨s.finishFetch, by rw [State.environment, hp]; rfl, by rw [hframe], by rw [hframe], hcore, fun hc => ?_, ?_⟩
    · obtain ⟨h1, h2, h3⟩ := finishFetch_spec hc
      exact ⟨h1, readByte_congr hcore h2 h3⟩
    · intro a fs h _ hr
      rw [← blockBase_blockOf] at hr
      rw [← dFind_block (blockOf_blockBase _)]
      exact finishFetch_brings h hr

end Sys2Proof.Machine
end

section
/-! SUPPORT. dcb and dinvalid, with the statements about them. -/
namespace Sys2Proof.Machine

/-! ### dcb and dinvalid (R151, R152, R550, R551) -/

theorem controlTarget_eq_some {s : State} {a : Word} {e : Fin 8} :
    s.controlTarget a = some e ↔ s.region a = .dramCached ∧ s.dFind a = some e := by
  simp [State.controlTarget]

/-- The state `u` with the line `f` makes of the element that the control operation finds in `s`, demoted; `u` itself
where it finds none. -/
def State.touchFound (s u : State) (a : Word) (f : Line 21 → Line 21) : State :=
  match s.controlTarget a with
  | some e => u.touchLine (dSet a) e f
  | none => u

section
variable {s u : State} (a : Word) (f : Line 21 → Line 21)

theorem touchFound_some {e : Fin 8} (h : s.controlTarget a = some e) :
    s.touchFound u a f = u.touchLine (dSet a) e f := by
  delta State.touchFound
  rw [h]

theorem touchFound_none (h : s.controlTarget a = none) : s.touchFound u a f = u := by
  delta State.touchFound
  rw [h]

theorem touchFound_frame : s.touchFound u a f = { u with dcache := (s.touchFound u a f).dcache } := by
  cases h : s.controlTarget a with
  | none => rw [touchFound_none a f h]
  | some e => rw [touchFound_some a f h]; rfl

/-- The element that is found changes as `f` says, and every other one stays. -/
theorem touchFound_lines (hd : u.dcache = s.dcache) (k : Fin 32) (i : Fin 8) :
    (s.touchFound u a f).dcache[k].lines[i] = if k = dSet a ∧ s.controlTarget a = some i
      then f s.dcache[k].lines[i] else s.dcache[k].lines[i] := by
  cases h : s.controlTarget a with
  | none => rw [touchFound_none a f h, hd, if_neg (fun hc => nomatch hc.2)]
  | some e =>
    rw [touchFound_some a f h, touchLine_lines, hd]
    by_cases hc : k = dSet a ∧ i = e
    · rw [if_pos hc, if_pos ⟨hc.1, by rw [hc.2]⟩, hc.1, hc.2]
    · rw [if_neg hc, if_neg fun hi => hc ⟨hi.1, (Option.some.inj hi.2).symm⟩]

/-- The LRU bits of a set without the block stay; those of its set designate the element that was found. -/
theorem touchFound_lru (hd : u.dcache = s.dcache) :
    (∀ k : Fin 32, k ≠ dSet a ∨ s.controlTarget a = none → (s.touchFound u a f).dcache[k].lru = s.dcache[k].lru)
      ∧ ∀ e, s.controlTarget a = some e → (s.touchFound u a f).dcache[dSet a].lru.victim = e := by
  cases h : s.controlTarget a with
  | none =>
    rw [touchFound_none a f h, hd]
    exact ⟨fun _ _ => rfl, nofun⟩
  | some e =>
    rw [touchFound_some a f h]
    refine ⟨fun k hk => ?_, fun e' he => ?_⟩
    · rw [touchLine_lru, if_neg (hk.resolve_right nofun), hd]
    · rw [touchLine_lru, if_pos rfl, demote_victim]
      exact Option.some.inj he

end

/-- The pending prefetches discarded and the copyback buffers emptied, as a dcb or dinvalid begins (R550, R551). -/
def State.emptied (s : State) : State := s.discardPrefetches.drained

/-- The state in which a dcb has also written the dirty block that it finds to SDRAM; the element is still dirty. -/
def State.blockWritten (s : State) (a : Word) : State :=
  match s.controlTarget a with
  | some e =>
    let l := s.dcache[dSet a].lines[e]
    if l.dirty then { s.emptied with mem := s.emptied.mem.writeBlock (blockOf a) l.data }.cacheEvent 7 else s.emptied
  | none => s.emptied

theorem invalidateBlock_eq (s : State) (a : Word) : s.invalidateBlock a =
    s.touchFound s.emptied a fun l => { l with valid := false, dirty := false } := rfl

theorem copyBackBlock_eq (s : State) (a : Word) : s.copyBackBlock a =
    s.touchFound (s.blockWritten a) a fun l => { l with dirty := false } := by
  have ht : s.discardPrefetches.drained.controlTarget a = s.controlTarget a := rfl
  unfold State.copyBackBlock State.blockWritten
  cases h : s.controlTarget a with
  | none =>
    rw [touchFound_none _ _ h]
    simp only [ht, h]
    rfl
  | some e =>
    rw [touchFound_some _ _ h]
    simp only [ht, h]
    rfl

theorem blockWritten_some {s : State} {a : Word} {e : Fin 8} (h : s.controlTarget a = some e) : s.blockWritten a =
    if s.dcache[dSet a].lines[e].dirty then
      { s.emptied with mem := s.emptied.mem.writeBlock (blockOf a) s.dcache[dSet a].lines[e].data }.cacheEvent 7
    else s.emptied := by
  delta State.blockWritten
  rw [h]

theorem blockWritten_none {s : State} {a : Word} (h : s.controlTarget a = none) : s.blockWritten a = s.emptied := by
  delta State.blockWritten
  rw [h]

theorem blockWritten_frame (s : State) (a : Word) : s.blockWritten a = { s with
    mem := (s.blockWritten a).mem
    copyback := []
    fetches := s.fetches.filter fun f => !f.prefetch
    cacheEvents := (s.blockWritten a).cacheEvents } := by
  cases h : s.controlTarget a with
  | none => rw [blockWritten_none h]; rfl
  | some e =>
    rw [blockWritten_some h]
    split <;> rfl

theorem blockWritten_dcache (s : State) (a : Word) : (s.blockWritten a).dcache = s.dcache := by
  rw [blockWritten_frame]

theorem copyBackBlock_frame (s : State) (a : Word) : s.copyBackBlock a = { s with
    mem := (s.copyBackBlock a).mem
    dcache := (s.copyBackBlock a).dcache
    copyback := []
    fetches := s.fetches.filter fun f => !f.prefetch
    cacheEvents := (s.copyBackBlock a).cacheEvents } := by
  rw [copyBackBlock_eq, touchFound_frame, blockWritten_frame]

theorem invalidateBlock_frame (s : State) (a : Word) : s.invalidateBlock a = { s with
    mem := s.drained.mem
    dcache := (s.invalidateBlock a).dcache
    copyback := []
    fetches := s.fetches.filter fun f => !f.prefetch } := by
  rw [invalidateBlock_eq, touchFound_frame]
  rfl

/-- A dcb makes the element that it finds clean. -/
theorem copyBackBlock_lines (s : State) (a : Word) (k : Fin 32) (i : Fin 8) :
    (s.copyBackBlock a).dcache[k].lines[i] = if k = dSet a ∧ s.controlTarget a = some i
      then { s.dcache[k].lines[i] with dirty := false } else s.dcache[k].lines[i] := by
  rw [copyBackBlock_eq]
  exact touchFound_lines a _ (blockWritten_dcache s a) k i

/-- A dinvalid makes the element that it finds invalid and clean. -/
theorem invalidateBlock_lines (s : State) (a : Word) (k : Fin 32) (i : Fin 8) :
    (s.invalidateBlock a).dcache[k].lines[i] = if k = dSet a ∧ s.controlTarget a = some i
      then { s.dcache[k].lines[i] with valid := false, dirty := false } else s.dcache[k].lines[i] :=
  touchFound_lines a _ rfl k i

/-- A byte of SDRAM after a block has been written. -/
theorem mem_read_writeBlock_at (m : Mem) (k : BitVec 26) (d : Block) (b : Word) (hm : m.wf = true) :
    (m.writeBlock k d).read b.toNat = if blockOf b = k then d[blockOffset b] else m.read b.toNat := by
  have h := mem_read_writeBlock m k (blockOf b) d (blockOffset b) hm
  rwa [blockBase_add_offset] at h

/-- A block that has been written to SDRAM is read back. -/
theorem mem_readBlock_writeBlock (m : Mem) (k : BitVec 26) (d : Block) (hm : m.wf = true) :
    (m.writeBlock k d).readBlock k = d := by
  apply Vector.ext
  intro i hi
  simp only [Mem.readBlock, Vector.getElem_ofFn]
  rw [mem_read_writeBlock m k k d ⟨i, hi⟩ hm, if_pos rfl]
  rfl

/-- After a dcb SDRAM has every byte that was below the cache, but in a dirty block that the dcb has found. -/
theorem copyBackBlock_read {s : State} {a : Word} (hm : s.memOk = true) (b : Word)
    (hb : blockOf b = blockOf a → ∀ e, s.controlTarget a = some e → s.dcache[dSet a].lines[e].dirty = false) :
    (s.copyBackBlock a).mem.read b.toNat = s.lowerByte (blockOf b) (blockOffset b) := by
  have hd : s.emptied.mem.read b.toNat = s.lowerByte (blockOf b) (blockOffset b) := drained_read s b hm
  rw [copyBackBlock_eq, touchFound_frame, ← hd]
  show (s.blockWritten a).mem.read _ = _
  cases h : s.controlTarget a with
  | none => rw [blockWritten_none h]
  | some e =>
    rw [blockWritten_some h]
    split
    · next hdirty =>
      refine (mem_read_writeBlock_at _ _ _ _ (drained_mem_wf s hm)).trans (if_neg fun hc => ?_)
      rw [hb hc e h] at hdirty
      cases hdirty
    · rfl

/-- A dirty block that the dcb finds has reached SDRAM and is counted as a copyback (R652). -/
theorem copyBackBlock_found {s : State} {a : Word} {e : Fin 8} (hm : s.memOk = true) (h : s.controlTarget a = some e) :
    let l := s.dcache[dSet a].lines[e]
    (s.copyBackBlock a).cacheEvents[7] = s.cacheEvents[7] + (if l.dirty then 1 else 0)
      ∧ (l.dirty = true → (s.copyBackBlock a).mem.readBlock (blockOf a) = l.data) := by
  rw [copyBackBlock_eq, touchFound_frame]
  show (s.blockWritten a).cacheEvents[7] = _ ∧ (_ → (s.blockWritten a).mem.readBlock _ = _)
  rw [blockWritten_some h]
  split
  · exact ⟨countEvent_get _ 7 7 1, fun _ => mem_readBlock_writeBlock _ _ _ (drained_mem_wf s hm)⟩
  · next hn => exact ⟨rfl, fun hd => absurd hd hn⟩

/-- A dcb leaves every lookup. -/
theorem copyBackBlock_dFind (s : State) (a b : Word) : (s.copyBackBlock a).dFind b = s.dFind b :=
  find_congr _ fun f => by
    rw [copyBackBlock_lines]
    split <;> exact ⟨rfl, rfl⟩

/-- No cached access notices a dcb. -/
theorem copyBackBlock_viewAt {s : State} {a b : Word} (hm : s.memOk = true) :
    (s.copyBackBlock a).viewAt b = s.viewAt b := by
  have hf := copyBackBlock_dFind s a b
  cases h : s.dFind b with
  | some e =>
    rw [viewAt_hit h, viewAt_hit (hf.trans h), State.lineByte, State.lineByte, copyBackBlock_lines]
    split <;> rfl
  | none =>
    rw [viewAt_miss h, viewAt_miss (hf.trans h), lowerByte_drained (by rw [copyBackBlock_frame]), copyBackBlock_read hm]
    intro hb e he
    rw [dFind_block hb, (controlTarget_eq_some.1 he).2] at h
    cases h

/-- Settles O42: by what a dcb does to each element, to the LRU bits and to SDRAM. -/
theorem copyBackReachesSdram : Obligations.CopyBackReachesSdram := by
  intro g s1 m s hg hm a
  have hq := copyBackBlock_quiet s a
  have hframe := copyBackBlock_frame s a
  have hlru := touchFound_lru a (fun l => { l with dirty := false }) (blockWritten_dcache s a)
  rw [← copyBackBlock_eq] at hlru
  refine ⟨s.copyBackBlock a, if_pos hg, by rw [hframe], hq.memory hm, hframe, fun b hr => ?_, fun b hb => ?_,
    fun k f hk => ?_, fun k hk => ?_, fun hr => ?_, fun e hr he => ?_⟩
  · rw [readByte_cached hr, readByte_cached ((region_of_core hq.core b).trans hr)]
    exact copyBackBlock_viewAt hm
  · refine copyBackBlock_read hm b fun hc e he => ?_
    obtain ⟨hr, he⟩ := controlTarget_eq_some.1 he
    exact hb hc hr e he
  · rw [copyBackBlock_lines, if_neg]
    rintro ⟨rfl, he⟩
    exact hk.elim (absurd rfl) (absurd (controlTarget_eq_some.1 he).2)
  · refine hlru.1 k (hk.imp_right fun hn => ?_)
    simp [State.controlTarget, hn]
  · have ht : s.controlTarget a = none := by simp [State.controlTarget, hr]
    rw [copyBackBlock_eq, touchFound_none _ _ ht, blockWritten_none ht]
    exact ⟨rfl, rfl⟩
  · have ht := controlTarget_eq_some.2 ⟨hr, he⟩
    have hl := (copyBackBlock_lines s a (dSet a) e).trans (if_pos ⟨rfl, ht⟩)
    obtain ⟨hc, hd⟩ := copyBackBlock_found hm ht
    exact ⟨(copyBackBlock_dFind ..).trans he, by rw [hl], by rw [hl], hlru.2 e ht, hc, hd⟩

/-- After a dinvalid SDRAM has every byte that was below the cache. -/
theorem invalidateBlock_read {s : State} {a : Word} (hm : s.memOk = true) (b : Word) :
    (s.invalidateBlock a).mem.read b.toNat = s.lowerByte (blockOf b) (blockOffset b) := by
  rw [invalidateBlock_frame]
  exact drained_read s b hm

/-- The block of a dinvalid is not found afterwards. -/
theorem invalidateBlock_dFind_self {s : State} {a : Word} (ht : s.tagsOk) (hr : s.region a = .dramCached) :
    (s.invalidateBlock a).dFind a = none := by
  refine find_none.2 fun f hv htag => ?_
  rw [invalidateBlock_lines] at hv htag
  split at hv
  · cases hv
  · next hc =>
    rw [if_neg hc] at htag
    exact hc ⟨rfl, controlTarget_eq_some.2 ⟨hr, find_of (ht _) hv htag⟩⟩

/-- Any other block is found as before, with its bytes. -/
theorem invalidateBlock_viewAt {s : State} {a b : Word} (ht : s.tagsOk) (hm : s.memOk = true)
    (hb : blockOf b ≠ blockOf a) : (s.invalidateBlock a).viewAt b = s.viewAt b := by
  have hne : ∀ f : Fin 8, s.dcache[dSet b].lines[f].tag = dTag b → ¬(dSet b = dSet a ∧ s.controlTarget a = some f) := by
    rintro f htag ⟨hk, hc⟩
    have hta := (find_some (controlTarget_eq_some.1 hc).2).2
    refine hb ?_
    rw [← dBlock_of_address, ← dBlock_of_address, ← htag, ← hta]
    simp only [hk]
  cases h : s.dFind b with
  | some e =>
    obtain ⟨hv, htag⟩ := find_some h
    have hl := (invalidateBlock_lines s a (dSet b) e).trans (if_neg (hne e htag))
    have hf : (s.invalidateBlock a).dFind b = some e :=
      find_of ((invalidateBlock_quiet s a).tags ht _) (by rw [hl]; exact hv) (by rw [hl]; exact htag)
    rw [viewAt_hit h, viewAt_hit hf, State.lineByte, State.lineByte, hl]
  | none =>
    have hf : (s.invalidateBlock a).dFind b = none := find_none.2 fun f hv htag => by
      rw [invalidateBlock_lines] at hv htag
      split at hv
      · cases hv
      · next hc =>
        rw [if_neg hc] at htag
        exact find_none.1 h f hv htag
    rw [viewAt_miss h, viewAt_miss hf, lowerByte_drained (by rw [invalidateBlock_frame]), invalidateBlock_read hm]

/-- Settles O43: by what a dinvalid does to each element, to the LRU bits and to SDRAM. -/
theorem invalidateDropsTheBlock : Obligations.InvalidateDropsTheBlock := by
  intro g s1 m s hg hm ht a
  have hq := invalidateBlock_quiet s a
  have hframe := invalidateBlock_frame s a
  have hlru := touchFound_lru (s := s) (u := s.emptied) a (fun l => { l with valid := false, dirty := false }) rfl
  rw [← invalidateBlock_eq] at hlru
  have hregion := region_of_core hq.core
  refine ⟨s.invalidateBlock a, if_pos hg, by rw [hframe], hq.memory hm, ?_, invalidateBlock_read hm, fun k f hk => ?_,
    fun k hk => ?_, fun hr => ?_, fun hr => ⟨invalidateBlock_dFind_self ht hr, fun e he => ?_, fun b hb hba => ?_⟩,
    fun b hb hba => ?_⟩
  · rw [hframe]
  · rw [invalidateBlock_lines, if_neg]
    rintro ⟨rfl, he⟩
    exact hk.elim (absurd rfl) (absurd (controlTarget_eq_some.1 he).2)
  · refine hlru.1 k (hk.imp_right fun hn => ?_)
    simp [State.controlTarget, hn]
  · rw [invalidateBlock_eq, touchFound_none _ _ (by simp [State.controlTarget, hr])]
    rfl
  · have hc := controlTarget_eq_some.2 ⟨hr, he⟩
    have hl := (invalidateBlock_lines s a (dSet a) e).trans (if_pos ⟨rfl, hc⟩)
    exact ⟨by rw [hl], by rw [hl], hlru.2 e hc⟩
  · have hf : (s.invalidateBlock a).dFind b = none := (dFind_block hba).trans (invalidateBlock_dFind_self ht hr)
    have hread : (s.invalidateBlock a).readByte b = (s.invalidateBlock a).mem.read b.toNat := by
      rw [readByte_cached ((hregion b).trans hb), ← State.viewAt, viewAt_miss hf, lowerByte_drained (by rw [hframe])]
    exact ⟨hread, hread.trans (invalidateBlock_read hm b)⟩
  · rw [readByte_cached hb, readByte_cached ((hregion b).trans hb)]
    exact invalidateBlock_viewAt ht hm hba

end Sys2Proof.Machine
end

section
/-! SUPPORT. The bytes of a word: what loads put together and extend, what stores take apart, and the bytes and halfwords
that an access picks out of a PI word. -/
namespace Sys2Proof.Machine

/-! ### Bytes of a word -/

theorem append_toNat {m n : Nat} (x : BitVec m) (y : BitVec n) : (x ++ y).toNat = x.toNat * 2 ^ n + y.toNat := by
  rw [BitVec.toNat_append, ← Nat.shiftLeft_add_eq_or_of_lt y.isLt, Nat.shiftLeft_eq]

theorem byteAt_toNat (w : Word) (k : Nat) : (byteAt w k).toNat = w.toNat / 2 ^ (8 * k) % 2 ^ 8 := by
  rw [byteAt, BitVec.extractLsb'_toNat, Nat.shiftRight_eq_div_pow]

theorem byteAt_getElem (w : Word) (k : Nat) {j : Nat} (hj : j < 8) : (byteAt w k)[j] = w.getLsbD (8 * k + j) := by
  simp [byteAt]

theorem ofBytes_toNat (b3 b2 b1 b0 : Byte) : (ofBytes b3 b2 b1 b0).toNat =
    ((b3.toNat * 2 ^ 8 + b2.toNat) * 2 ^ 8 + b1.toNat) * 2 ^ 8 + b0.toNat := by
  simp only [ofBytes, append_toNat]

theorem byteAt_ofBytes (b3 b2 b1 b0 : Byte) : byteAt (ofBytes b3 b2 b1 b0) 0 = b0 ∧ byteAt (ofBytes b3 b2 b1 b0) 1 = b1
    ∧ byteAt (ofBytes b3 b2 b1 b0) 2 = b2 ∧ byteAt (ofBytes b3 b2 b1 b0) 3 = b3 := by
  have h := ofBytes_toNat b3 b2 b1 b0
  have h0 := b0.isLt
  have h1 := b1.isLt
  have h2 := b2.isLt
  have h3 := b3.isLt
  refine ⟨?_, ?_, ?_, ?_⟩ <;> (apply BitVec.eq_of_toNat_eq; rw [byteAt_toNat, h]; omega)

/-- A word is its four bytes. -/
theorem ofBytes_byteAt (w : Word) : ofBytes (byteAt w 3) (byteAt w 2) (byteAt w 1) (byteAt w 0) = w := by
  apply BitVec.eq_of_toNat_eq
  simp only [ofBytes_toNat, byteAt_toNat]
  have := w.isLt
  omega

/-- A halfword of a word is two of its bytes. -/
theorem byteAt_append (w : Word) (k : Nat) : byteAt w (2 * k + 1) ++ byteAt w (2 * k) = halfAt w k := by
  apply BitVec.eq_of_toNat_eq
  have hk : (2 : Nat) ^ (8 * (2 * k + 1)) = 2 ^ (16 * k) * 2 ^ 8 := by rw [← pow_add]; congr 1; omega
  rw [append_toNat, byteAt_toNat, byteAt_toNat, halfAt, BitVec.extractLsb'_toNat, Nat.shiftRight_eq_div_pow, hk,
    ← Nat.div_div_eq_div_mul, show 8 * (2 * k) = 16 * k by omega]
  omega

theorem byteAt_zext16 (b1 b0 : Byte) : byteAt (zext16 (b1 ++ b0)) 0 = b0 ∧ byteAt (zext16 (b1 ++ b0)) 1 = b1 := by
  have h0 := b0.isLt
  have h1 := b1.isLt
  constructor <;>
    (apply BitVec.eq_of_toNat_eq; rw [byteAt_toNat, zext16, BitVec.toNat_setWidth, append_toNat]; omega)

theorem byteAt_zext8 (b : Byte) : byteAt (zext8 b) 0 = b := by
  apply BitVec.eq_of_toNat_eq
  rw [byteAt_toNat, zext8, BitVec.toNat_setWidth]
  have := b.isLt
  omega

/-! ### Values of loads and stores (R101, R262) -/

theorem bytePos_lt (little : Bool) {n : Width} {k : Nat} (h : k < n.bytes) : bytePos little n k < n.bytes := by
  unfold bytePos
  split <;> omega

/-- The byte at offset `k` of an access is at its place in the value that is read. -/
theorem byteAt_compose (little : Bool) (n : Width) (f : Nat → Byte) {k : Nat} (h : k < n.bytes) :
    byteAt (compose little n f) (bytePos little n k) = f k := by
  cases n with
  | b1 =>
    obtain rfl : k = 0 := by simpa [Width.bytes] using h
    cases little <;> exact byteAt_zext8 _
  | b2 =>
    have hk : k = 0 ∨ k = 1 := by simp only [Width.bytes] at h; omega
    obtain ⟨h0, h1⟩ := byteAt_zext16 (f 1) (f 0)
    obtain ⟨g0, g1⟩ := byteAt_zext16 (f 0) (f 1)
    rcases hk with rfl | rfl <;> cases little <;> assumption
  | b4 =>
    have hk : k = 0 ∨ k = 1 ∨ k = 2 ∨ k = 3 := by simp only [Width.bytes] at h; omega
    obtain ⟨h0, h1, h2, h3⟩ := byteAt_ofBytes (f 3) (f 2) (f 1) (f 0)
    obtain ⟨g0, g1, g2, g3⟩ := byteAt_ofBytes (f 0) (f 1) (f 2) (f 3)
    rcases hk with rfl | rfl | rfl | rfl <;> cases little <;> assumption

/-- The bits of an extended value: those of the value, then zeros or copies of its sign bit. -/
theorem extend_bit (n : Width) (sg : Bool) (v : Word) {j : Nat} (hj : j < 32) : (extend n sg v).getLsbD j =
    if j < 8 * n.bytes then v.getLsbD j else sg && v.getLsbD (8 * n.bytes - 1) := by
  cases n with
  | b4 => simp [extend, Width.bytes, hj]
  | b1 =>
    cases sg with
    | false => simp [extend, zext8, byteAt, Width.bytes, hj]
    | true => simp [extend, sext8, byteAt, Width.bytes, hj, BitVec.getElem_signExtend, BitVec.msb_eq_getLsbD_last]
  | b2 =>
    cases sg with
    | false => simp [extend, zext16, halfAt, Width.bytes, hj]
    | true => simp [extend, sext16, halfAt, Width.bytes, hj, BitVec.getElem_signExtend, BitVec.msb_eq_getLsbD_last]

theorem byteAt_extend (n : Width) (sg : Bool) (v : Word) {k : Nat} (h : k < n.bytes) :
    byteAt (extend n sg v) k = byteAt v k := by
  have hn : n.bytes ≤ 4 := by cases n <;> simp [Width.bytes]
  ext j hj
  rw [byteAt_getElem _ _ hj, byteAt_getElem _ _ hj, extend_bit _ _ _ (by omega), if_pos (by omega)]

theorem extend_high (n : Width) (sg : Bool) (v : Word) {j : Nat} (hj : j < 32) (hn : 8 * n.bytes ≤ j) :
    (extend n sg v).getLsbD j = (sg && (extend n sg v).getLsbD (8 * n.bytes - 1)) := by
  have hb : 0 < n.bytes := by cases n <;> simp [Width.bytes]
  rw [extend_bit _ _ _ hj, extend_bit _ _ _ (by omega), if_neg (by omega), if_pos (by omega)]

theorem extend_zero (n : Width) (sg : Bool) : extend n sg 0 = 0 := by
  cases n <;> cases sg <;> rfl

theorem splitBytes_length (little : Bool) (n : Width) (v : Word) : (splitBytes little n v).length = n.bytes := by
  cases n <;> cases little <;> rfl

/-- A store puts each byte of its value at its offset. -/
theorem splitBytes_get (little : Bool) (n : Width) (v : Word) {k : Nat} (h : k < n.bytes) :
    (splitBytes little n v)[k]? = some (byteAt v (bytePos little n k)) := by
  cases n with
  | b1 =>
    obtain rfl : k = 0 := by simpa [Width.bytes] using h
    cases little <;> rfl
  | b2 =>
    have hk : k = 0 ∨ k = 1 := by simp only [Width.bytes] at h; omega
    rcases hk with rfl | rfl <;> cases little <;> rfl
  | b4 =>
    have hk : k = 0 ∨ k = 1 ∨ k = 2 ∨ k = 3 := by simp only [Width.bytes] at h; omega
    rcases hk with rfl | rfl | rfl | rfl <;> cases little <;> rfl

/-- The low bytes of a word as a remainder. -/
theorem lowBytes_eq (n : Width) (v : Word) : lowBytes n v = BitVec.ofNat 32 (v.toNat % 2 ^ (8 * n.bytes)) := by
  apply BitVec.eq_of_toNat_eq
  cases n with
  | b1 => simp [lowBytes, zext8, byteAt, Width.bytes]
  | b2 => simp [lowBytes, zext16, halfAt, Width.bytes]
  | b4 => simp [lowBytes, Width.bytes, Nat.mod_eq_of_lt v.isLt]

end Sys2Proof.Machine
end

section
/-! SUPPORT. Loads and stores: their forms, what each aperture answers, and how an access completes; with the statements
about loads and stores of memory. -/
namespace Sys2Proof.Machine

/-! ### The forms of loads and stores -/

/-- Every load form is a guarded load of its width at its address. -/
theorem loadForms_of {g s1 s2 d : Reg} {m : Int} {s : State} {P : Instr → Width → Bool → Word → Prop}
    (h : ∀ i n sg a, exec i s = issueLoad n sg g a d s → P i n sg a) : LoadForms g s1 s2 d m s P :=
  ⟨h _ _ _ _ rfl, h _ _ _ _ rfl, h _ _ _ _ rfl, h _ _ _ _ rfl, h _ _ _ _ rfl, h _ _ _ _ rfl, h _ _ _ _ rfl,
    h _ _ _ _ rfl, h _ _ _ _ rfl, h _ _ _ _ rfl, h _ _ _ _ rfl, h _ _ _ _ rfl, h _ _ _ _ rfl, h _ _ _ _ rfl,
    h _ _ _ _ rfl, h _ _ _ _ rfl, h _ _ _ _ rfl, h _ _ _ _ rfl⟩

theorem wordLoadForms_of {g s1 s2 d : Reg} {m : Int} {s : State} {P : Instr → Word → Prop}
    (h : ∀ i a, exec i s = issueLoad .b4 false g a d s → P i a) : WordLoadForms g s1 s2 d m s P :=
  ⟨h _ _ rfl, h _ _ rfl, h _ _ rfl, h _ _ rfl⟩

/-- Every store form is a guarded store of its width at its address. -/
theorem storeForms_of {g s1 s2 : Reg} {m : Int} {s : State} {P : Instr → Width → Word → Word → Prop}
    (h : ∀ i n a v, exec i s = issueStore n g a v s → P i n a v) : StoreForms g s1 s2 m s P :=
  ⟨h _ _ _ _ rfl, h _ _ _ _ rfl, h _ _ _ _ rfl, h _ _ _ _ rfl, h _ _ _ _ rfl, h _ _ _ _ rfl, h _ _ _ _ rfl,
    h _ _ _ _ rfl, h _ _ _ _ rfl⟩

theorem wordStoreForms_of {g s1 s2 : Reg} {m : Int} {s : State} {P : Instr → Word → Word → Prop}
    (h : ∀ i a v, exec i s = issueStore .b4 g a v s → P i a v) : WordStoreForms g s1 s2 m s P :=
  ⟨h _ _ _ rfl, h _ _ _ rfl, h _ _ _ rfl⟩

/-! ### What each aperture answers (R110, R111, R112) -/

section
variable {s : State} {n : Width} {a v : Word}

theorem memRead_none (h : s.region a = .none) : s.memRead n a = .ok (0, s) := by
  delta State.memRead; rw [h]

theorem memRead_cached (h : s.region a = .dramCached) : s.memRead n a = .ok
    (compose (bsx s.pcsw) n (fun i => (s.dAccess a 4).2.lineByte (a + BitVec.ofNat 32 i) (s.dAccess a 4).1),
      (s.dAccess a 4).2) := by
  delta State.memRead; rw [h]

theorem memRead_uncached (h : s.region a = .dramUncached) :
    s.memRead n a = .ok (compose (bsx s.pcsw) n (fun i => s.mem.read (a + BitVec.ofNat 32 i).toNat), s) := by
  delta State.memRead; rw [h]

theorem memRead_apert1 (h : s.region a = .apert1) : s.memRead n a = .ok
    (compose (bsx s.pcsw) n (apertureByte (bsx s.pcsw) (Config.freeWord s.freeCount) a),
      (s.piReadWord (a &&& ~~~3)).2) := by
  delta State.memRead; rw [h]
  rfl

theorem memRead_narrowMmio (h : s.region a = .mmio) (hn : n ≠ .b4) :
    s.memRead n a = .ok (Config.freeWord s.freeCount, s.drawn) := by
  cases n with
  | b4 => contradiction
  | _ => delta State.memRead; rw [h]; rfl

theorem memRead_mmio (h : s.region a = .mmio) : s.memRead .b4 a = s.mmioLoad a := by
  delta State.memRead; rw [h]

theorem memWrite_none (h : s.region a = .none) : s.memWrite n a v = .ok s := by
  delta State.memWrite; rw [h]

theorem memWrite_cached (h : s.region a = .dramCached) : s.memWrite n a v =
    .ok ((s.dAccess a 5).2.setLineBytes a (s.dAccess a 5).1 (splitBytes (bsx s.pcsw) n v)) := by
  delta State.memWrite; rw [h]

theorem memWrite_uncached (h : s.region a = .dramUncached) :
    s.memWrite n a v = .ok { s with mem := s.mem.writeList a (splitBytes (bsx s.pcsw) n v) } := by
  delta State.memWrite; rw [h]

theorem memWrite_apert1 (h : s.region a = .apert1) :
    s.memWrite n a v = .ok (s.piTransaction (piStoreOp n a) (a &&& ~~~3) (lowBytes n v)) := by
  delta State.memWrite; rw [h]

theorem memWrite_narrowMmio (h : s.region a = .mmio) (hn : n ≠ .b4) : s.memWrite n a v = .error .narrowMmioStore := by
  cases n with
  | b4 => contradiction
  | _ => delta State.memWrite; rw [h]

theorem memWrite_mmio (h : s.region a = .mmio) : s.memWrite .b4 a v = s.mmioStore a v := by
  delta State.memWrite; rw [h]

end

/-! ### How an access completes (R262, R263) -/

theorem loadValue_eq {s : State} {a : Word} (h : s.region a ≠ .mmio) (n : Width) (sg : Bool) (v : Word) :
    s.loadValue n sg a v = extend n sg v := if_neg h

theorem loadValue_mmio {s : State} {a : Word} (h : s.region a = .mmio) (n : Width) (sg : Bool) (v : Word) :
    s.loadValue n sg a v = v := if_pos h

theorem overlaps_nil (n : Width) (a : Word) : overlaps n a [] = false := by
  simp [overlaps, touched]

theorem stores_nil {l : IssueLog} (h : l.accesses = []) : l.stores = [] := by
  simp [IssueLog.stores, h]

theorem logged_of {s u t : State} {x : Access} (hi : u.issue = s.issue) (h : t.issue = (u.logAccess x).issue) :
    Logged s t x.store x.daddr x.data := ⟨x, by rw [h, ← hi]; rfl, rfl, rfl, rfl⟩

/-- A load that no store of its instruction overlaps delivers the value read, is logged, and changes nothing else but what
the read changes. -/
theorem performLoad_completes {n : Width} {sg : Bool} {a raw : Word} {d : Reg} {s u : State}
    (hm : s.memRead n (align n a) = .ok (raw, u)) (hi : u.issue = s.issue)
    (ho : overlaps n (align n a) s.issue.stores = false) :
    ∃ t, performLoad n sg a d s = .next t ∧ Logged s t false a (s.loadValue n sg (align n a) raw)
      ∧ t = { u with
        results := ⟨d, s.loadValue n sg (align n a) raw, 3⟩ :: u.results
        issue := t.issue } := by
  simp only [performLoad, hm, hi, ho, if_neg Bool.false_ne_true]
  exact ⟨_, rfl, logged_of hi (issueResult_issue ..), rfl⟩

/-- A store that is the first access of its instruction is logged, sets its flag where it is misaligned, and changes
nothing else but what the write changes. -/
theorem performStore_completes {n : Width} {a v : Word} {s u : State} (hm : s.memWrite n (align n a) v = .ok u)
    (hi : u.issue = s.issue) (ha : s.issue.accesses = []) :
    ∃ t, performStore n a v s = .next t
      ∧ Logged s t true a (BitVec.ofNat 32 (v.toNat % 2 ^ (8 * n.bytes)))
      ∧ t = { u with
        flagUpdates := if align n a = a then u.flagUpdates else ⟨0x8000, 1⟩ :: u.flagUpdates
        issue := t.issue } := by
  simp only [performStore, stores_nil ha, overlaps_nil, if_neg Bool.false_ne_true, hm, ha, List.foldl_nil,
    ← lowBytes_eq]
  refine ⟨_, rfl, logged_of hi (issueFlags_issue ..), ?_⟩
  by_cases h : align n a = a <;> simp [aligned, h, State.issueFlags, State.logAccess, flagMSE]

/-! ### What a read changes -/

theorem readTagArea_frame {s : State} {off : BitVec 21} {p : Word × State} (h : s.readTagArea off = .ok p) :
    p.2 = { s with freeCount := p.2.freeCount } := by
  unfold State.readTagArea at h
  dsimp only at h
  split_ifs at h <;> cases h <;> rfl

theorem readMmioReg_frame (s : State) (r : MmioReg) :
    (s.readMmioReg r).2 = { s with freeCount := (s.readMmioReg r).2.freeCount } := by
  cases r <;> rfl

theorem mmioLoad_frame {s : State} {a : Word} {p : Word × State} (h : s.mmioLoad a = .ok p) :
    p.2 = { s with piLog := p.2.piLog, freeCount := p.2.freeCount } := by
  unfold State.mmioLoad at h
  dsimp only at h
  split at h
  · rw [readTagArea_frame h]
  · cases h
    rw [readMmioReg_frame]
  · cases h
    rfl

/-- Outside cacheable DRAM a read changes at most the record of the PI bus and the index of the next free value. -/
theorem memRead_elsewhere {s : State} {n : Width} {a : Word} {p : Word × State} (h : s.memRead n a = .ok p)
    (hr : s.region a ≠ .dramCached) : p.2 = { s with piLog := p.2.piLog, freeCount := p.2.freeCount } := by
  cases hc : s.region a with
  | dramCached => exact absurd hc hr
  | none => rw [memRead_none hc] at h; cases h; rfl
  | dramUncached => rw [memRead_uncached hc] at h; cases h; rfl
  | apert1 => rw [memRead_apert1 hc] at h; cases h; rfl
  | mmio =>
    by_cases hn : n = .b4
    · subst hn
      rw [memRead_mmio hc] at h
      exact mmioLoad_frame h
    · rw [memRead_narrowMmio hc hn] at h
      cases h
      rfl

/-! ### Loads (R110, R143, R262) -/

/-- A read of SDRAM: the bytes of memory in their order, and what it changes. -/
theorem memRead_dram {s : State} (hs : s.alignedOk = true) (n : Width) (a : Word)
    (hr : s.region (align n a) = .dramCached ∨ s.region (align n a) = .dramUncached) :
    ∃ raw u, s.memRead n (align n a) = .ok (raw, u)
      ∧ (∀ k < n.bytes, byteAt raw (bytePos (bsx s.pcsw) n k) = s.readByte (align n a + BitVec.ofNat 32 k))
      ∧ u = { s with
        dcache := u.dcache
        copyback := u.copyback
        fetches := u.fetches
        cacheEvents := u.cacheEvents
        freeCount := u.freeCount }
      ∧ u.cacheEvents[4] = s.cacheEvents[4]
        + if s.region (align n a) = .dramCached ∧ s.dFind (align n a) = none then 1 else 0 := by
  rcases hr with hr | hr
  · refine ⟨_, _, memRead_cached hr, fun k hk => ?_, dAccess_frame .., ?_⟩
    · rw [byteAt_compose _ _ _ hk, dAccess_lineByte s 4 (align_block n a hk),
        readByte_cached ((region_align hs n a hk).trans hr)]
      rfl
    · simp only [hr, true_and]
      exact dAccess_events s (align n a) (miss := 4) (by decide)
  · refine ⟨_, _, memRead_uncached hr, fun k hk => ?_, rfl, by simp [hr]⟩
    rw [byteAt_compose _ _ _ hk, readByte_uncached ((region_align hs n a hk).trans hr)]

/-- Settles O32: the bytes of the value read are those of memory, and the extension keeps them. -/
theorem loadsDeliverTheBytesOfMemory : Obligations.LoadsDeliverTheBytesOfMemory := by
  intro g s1 s2 d m s
  refine loadForms_of fun i n sg a he hg hs ho hr => ?_
  obtain ⟨raw, u, hm, hbytes, hu, hev⟩ := memRead_dram hs n a hr
  obtain ⟨t, ht, hlog, hframe⟩ := performLoad_completes (sg := sg) (d := d) hm (by rw [hu]) ho
  have hv : s.loadValue n sg (align n a) raw = extend n sg raw :=
    loadValue_eq (by rcases hr with hr | hr <;> simp [hr]) ..
  rw [hv] at hlog hframe
  refine ⟨t, extend n sg raw, (he.trans (if_pos hg)).trans ht, ?_, ?_, ?_, fun k hk => ?_, fun j hj hn =>
    extend_high n sg raw hj hn, hlog, ?_⟩
  · rw [hframe, hu]; rfl
  · rw [hframe, hu]
  · rw [hframe, hu]
  · rw [← hbytes k hk]
    exact byteAt_extend n sg raw (bytePos_lt _ hk)
  · rw [hframe]
    exact hev

/-- A read leaves every byte of memory, SDRAM and the agreement of cache and SDRAM as they were. -/
theorem memRead_spec {s : State} {n : Width} {a : Word} {p : Word × State} (hs : s.Coherent)
    (h : s.memRead n a = .ok p) : p.2.Coherent ∧ p.2.mem = s.mem ∧ s.SameBytes p.2 := by
  have hcore := (memRead_quiet h).core
  by_cases hr : s.region a = .dramCached
  · rw [memRead_cached hr] at h
    cases h
    obtain ⟨h1, h2, h3, -⟩ := dAccess_spec 4 hs (a := a)
    exact ⟨h1, h2, readByte_congr hcore h2 h3⟩
  · have hp := memRead_elsewhere h hr
    have hm : p.2.mem = s.mem := by rw [hp]
    obtain ⟨h1, h2⟩ := sameBytes_of_same hcore hm (by rw [hp]) (by rw [hp]) hs
    exact ⟨h1, hm, h2⟩

/-- A load that completes: beside what its read changes it leaves memory and caches alone. -/
theorem performLoad_reads {n : Width} {sg : Bool} {a : Word} {d : Reg} {s t : State} (h : performLoad n sg a d s = .next t) :
    ∃ p, s.memRead n (align n a) = .ok p ∧ t = { p.2 with
      results := t.results
      issue := t.issue
      freeCount := t.freeCount } := by
  unfold performLoad at h
  dsimp only at h
  split at h
  · cases h
  · next heq =>
    cases h
    refine ⟨_, heq, ?_⟩
    split <;> rfl

/-- Settles O37: a load changes memory as its read does, which no byte notices. -/
theorem loadsLeaveMemoryUnchanged : Obligations.LoadsLeaveMemoryUnchanged := by
  intro g s1 s2 d m s t hs
  refine loadForms_of fun i n sg a he h => ?_
  rcases guarded_next (he.symm.trans h) with ⟨-, h⟩ | ⟨-, rfl⟩
  · obtain ⟨p, hp, ht⟩ := performLoad_reads h
    obtain ⟨h1, h2, h3⟩ := memRead_spec hs hp
    rw [ht]
    exact ⟨coherent_congr h1 rfl rfl fun _ _ => rfl, h2, h3⟩
  · exact ⟨hs, rfl, fun _ => rfl⟩

/-! ### Stores (R111, R144, R263) -/

/-- A write to SDRAM puts the low bytes of the value at the address in their order. -/
theorem memWrite_dram {s : State} (hs : s.alignedOk = true) (hw : s.memOk = true) (n : Width) (a v : Word)
    (hr : s.region (align n a) = .dramCached ∨ s.region (align n a) = .dramUncached) :
    ∃ u, s.memWrite n (align n a) v = .ok u
      ∧ (∀ k < n.bytes, u.readByte (align n a + BitVec.ofNat 32 k) = byteAt v (bytePos (bsx s.pcsw) n k))
      ∧ u = { s with
        mem := u.mem
        dcache := u.dcache
        copyback := u.copyback
        fetches := u.fetches
        cacheEvents := u.cacheEvents
        freeCount := u.freeCount }
      ∧ u.cacheEvents[5] = s.cacheEvents[5]
        + if s.region (align n a) = .dramCached ∧ s.dFind (align n a) = none then 1 else 0 := by
  have hn : n.bytes ≤ 4 := by cases n <;> simp [Width.bytes]
  have hoff : ∀ k < n.bytes, (align n a + BitVec.ofNat 32 k - align n a).toNat = k := fun k hk => by
    generalize align n a = x
    bv_omega
  have hlen := splitBytes_length (bsx s.pcsw) n v
  rcases hr with hr | hr
  · refine ⟨_, memWrite_cached hr, fun k hk => ?_, ?_, ?_⟩
    · have hq := (memWrite_quiet (memWrite_cached (n := n) (v := v) hr)).core
      rw [readByte_cached ((region_of_core hq _).trans ((region_align hs n a hk).trans hr)), ← State.viewAt,
        setLineBytes_viewAt _ (dAccess_finds ..) (fun i hi => align_block n a (hlen ▸ hi)) (by omega), hoff k hk,
        splitBytes_get _ _ _ hk]
      rfl
    · rw [setLineBytes_frame, dAccess_frame]
    · rw [setLineBytes_frame]
      simp only [hr, true_and]
      exact dAccess_events s (align n a) (miss := 5) (by decide)
  · refine ⟨_, memWrite_uncached hr, fun k hk => ?_, rfl, by simp [hr]⟩
    rw [readByte_uncached]
    · have hk' : k < (splitBytes (bsx s.pcsw) n v).length := by rw [hlen]; exact hk
      rw [mem_read_writeList_at _ _ _ k hw hk' (by omega)]
      exact Option.some.inj ((List.getElem?_eq_getElem hk').symm.trans (splitBytes_get _ _ _ hk))
    · exact (region_align hs n a hk).trans hr

/-- Settles O38: the write puts the bytes into the element that holds their block, or into SDRAM. -/
theorem storesWriteTheBytesOfMemory : Obligations.StoresWriteTheBytesOfMemory := by
  intro g s1 s2 m s
  refine storeForms_of fun i n a v he hg hs hw ha hr => ?_
  obtain ⟨u, hm, hbytes, hu, hev⟩ := memWrite_dram hs hw n a v hr
  obtain ⟨t, ht, hlog, hframe⟩ := performStore_completes hm (by rw [hu]) ha
  refine ⟨t, (he.trans (if_pos hg)).trans ht, fun k hk => ?_, ?_, ?_, ?_, hlog, ?_⟩
  · rw [hframe]
    exact hbytes k hk
  · rw [hframe, hu]
  · rw [hframe, hu]
  · rw [hframe, hu]; rfl
  · rw [hframe]
    exact hev

/-- Where cache and SDRAM agree, a write outside the MMIO aperture leaves every byte that it does not write. -/
theorem memWrite_other {s u : State} {n : Width} {a v b : Word} (hs : s.Coherent) (hw : s.memOk = true)
    (hr : s.region (align n a) ≠ .mmio) (h : s.memWrite n (align n a) v = .ok u) (hb : ¬inRange n (align n a) b) :
    u.readByte b = s.readByte b := by
  have hcore := (memWrite_quiet h).core
  have hlen := splitBytes_length (bsx s.pcsw) n v
  have hn : n.bytes ≤ 4 := by cases n <;> simp [Width.bytes]
  have hfar : n.bytes ≤ (b - align n a).toNat := Nat.le_of_not_lt hb
  cases hc : s.region (align n a) with
  | mmio => exact absurd hc hr
  | none => rw [memWrite_none hc] at h; cases h; rfl
  | apert1 => rw [memWrite_apert1 hc] at h; cases h; rfl
  | dramUncached =>
    rw [memWrite_uncached hc] at h
    cases h
    have hm := mem_read_writeList_other s.mem (align n a) b _ hw (by rw [hlen]; exact hfar)
    exact readByte_congr_at hcore hm (viewAt_congr (s := s) (by rfl) (by rfl) hm)
  | dramCached =>
    rw [memWrite_cached hc] at h
    cases h
    obtain ⟨-, hmem, hview, hfind⟩ := dAccess_spec 5 hs (a := align n a)
    refine readByte_congr_at hcore (by rw [(setLineBytes_keeps ..).1, hmem]) ?_
    rw [setLineBytes_viewAt _ hfind (fun i hi => align_block n a (hlen ▸ hi)) (by omega),
      List.getElem?_eq_none (by rw [hlen]; exact hfar)]
    exact hview ..

theorem spoilLoad_frame (s : State) (y x : Access) : s.spoilLoad y x = { s with
    results := (s.spoilLoad y x).results
    issue := (s.spoilLoad y x).issue
    freeCount := (s.spoilLoad y x).freeCount } := by
  unfold State.spoilLoad
  split <;> rfl

/-- What a store does to the loads of its instruction is nothing to memory. -/
theorem spoilLoads_frame (y : Access) (xs : List Access) (s : State) :
    let t := xs.foldl (fun t x => t.spoilLoad y x) s
    t = { s with results := t.results, issue := t.issue, freeCount := t.freeCount } := by
  induction xs generalizing s with
  | nil => rfl
  | cons x xs ih =>
    intro t
    have h : t = { s.spoilLoad y x with results := t.results, issue := t.issue, freeCount := t.freeCount } := ih _
    rw [spoilLoad_frame] at h
    exact h

/-- A store that completes: beside what its write changes it leaves memory and caches alone. -/
theorem performStore_writes {n : Width} {a v : Word} {s t : State} (h : performStore n a v s = .next t) :
    ∃ s1 v' u, (s1 = s ∨ s1 = s.drawn) ∧ s1.memWrite n (align n a) v' = .ok u ∧ t = { u with
      results := t.results
      flagUpdates := t.flagUpdates
      issue := t.issue
      freeCount := t.freeCount } := by
  unfold performStore at h
  dsimp only at h
  split at h
  · cases h
  · next u heq =>
    refine ⟨_, _, u, ?_, heq, ?_⟩
    · split
      · exact .inr rfl
      · exact .inl rfl
    · cases h
      rw [spoilLoads_frame]
      unfold State.issueFlags
      split <;> rfl

/-- Settles O39: by the write alone, which leaves the other bytes. -/
theorem storesLeaveOtherBytes : Obligations.StoresLeaveOtherBytes := by
  intro g s1 s2 m s t hs hw _
  refine storeForms_of fun i n a v he hr h b hb => ?_
  rcases guarded_next (he.symm.trans h) with ⟨-, h⟩ | ⟨-, rfl⟩
  · obtain ⟨s', v', u, hs', hm, ht⟩ := performStore_writes h
    have hu : t.readByte b = u.readByte b := by rw [ht]; rfl
    rw [hu]
    rcases hs' with rfl | rfl
    · exact memWrite_other hs hw hr hm hb
    · exact memWrite_other (s := s.drawn) hs hw hr hm hb
  · rfl

end Sys2Proof.Machine
end

section
/-! SUPPORT. Accesses outside memory: no aperture, the MMIO aperture and the PI bus; with the statements about them. -/
namespace Sys2Proof.Machine

/-! ### Outside all apertures and narrow MMIO accesses (R123, R125) -/

/-- A guarded load that is the first access of its instruction, outside cacheable DRAM. -/
theorem issueLoad_completes {n : Width} {sg : Bool} {g d : Reg} {a raw : Word} {s u : State} (hg : s.guard g = true)
    (ha : s.issue.accesses = []) (hr : s.region (align n a) ≠ .dramCached)
    (hm : s.memRead n (align n a) = .ok (raw, u)) :
    ∃ t, issueLoad n sg g a d s = .next t ∧ Logged s t false a (s.loadValue n sg (align n a) raw)
      ∧ t = { s with
        results := ⟨d, s.loadValue n sg (align n a) raw, 3⟩ :: s.results
        issue := t.issue
        freeCount := t.freeCount
        piLog := u.piLog } := by
  have hu : u = { s with piLog := u.piLog, freeCount := u.freeCount } := memRead_elsewhere hm hr
  obtain ⟨t, ht, hlog, hframe⟩ := performLoad_completes (sg := sg) (d := d) hm (by rw [hu])
    (by rw [stores_nil ha, overlaps_nil])
  refine ⟨t, (if_pos hg).trans ht, hlog, ?_⟩
  rw [hframe, hu]

/-- A guarded store that is the first access of its instruction. -/
theorem issueStore_completes {n : Width} {g : Reg} {a v : Word} {s u : State} (hg : s.guard g = true)
    (ha : s.issue.accesses = []) (hm : s.memWrite n (align n a) v = .ok u) (hi : u.issue = s.issue) :
    ∃ t, issueStore n g a v s = .next t ∧ Logged s t true a (BitVec.ofNat 32 (v.toNat % 2 ^ (8 * n.bytes)))
      ∧ t = { u with
        flagUpdates := if align n a = a then u.flagUpdates else ⟨0x8000, 1⟩ :: u.flagUpdates
        issue := t.issue } := by
  obtain ⟨t, ht, hlog, hframe⟩ := performStore_completes hm hi ha
  exact ⟨t, (if_pos hg).trans ht, hlog, hframe⟩

theorem issueLoad_refused {n : Width} {sg : Bool} {g d : Reg} {a : Word} {s : State} {e : Refusal}
    (hg : s.guard g = true) (hm : s.memRead n (align n a) = .error e) : issueLoad n sg g a d s = .refused e := by
  rw [issueLoad, guarded, if_pos hg]
  simp only [performLoad, hm]

/-- A store that is refused as the first access of its instruction. -/
theorem issueStore_refused {n : Width} {g : Reg} {a v : Word} {s : State} {e : Refusal} (hg : s.guard g = true)
    (ha : s.issue.accesses = []) (hm : s.memWrite n (align n a) v = .error e) :
    issueStore n g a v s = .refused e := by
  rw [issueStore, guarded, if_pos hg]
  simp only [performStore, stores_nil ha, overlaps_nil, if_neg Bool.false_ne_true, hm]

/-- Settles O33: nothing answers outside the apertures, and a narrow MMIO access reads a free word or is refused. -/
theorem accessesOutsideMemory : Obligations.AccessesOutsideMemory := by
  intro g s1 s2 d m s hg ha
  refine ⟨loadForms_of fun i n sg a he => ⟨fun hr => ?_, fun hn hr => ?_⟩,
    storeForms_of fun i n a v he => ⟨fun hr => ?_, fun hn hr => ?_⟩⟩
  · obtain ⟨t, ht, hlog, hframe⟩ := issueLoad_completes (sg := sg) (d := d) hg ha (by simp [hr]) (memRead_none hr)
    rw [loadValue_eq (by simp [hr]), extend_zero] at hlog hframe
    exact ⟨t, he.trans ht, hlog, hframe⟩
  · obtain ⟨t, ht, hlog, hframe⟩ := issueLoad_completes (sg := sg) (d := d) hg ha (by simp [hr])
      (memRead_narrowMmio hr hn)
    exact ⟨t, _, he.trans ht, hlog, hframe⟩
  · obtain ⟨t, ht, hlog, hframe⟩ := issueStore_completes hg ha (memWrite_none (v := v) hr) rfl
    refine ⟨t, he.trans ht, hlog, ?_⟩
    rw [hframe]
  · exact he.trans (issueStore_refused hg ha (memWrite_narrowMmio hr hn))

/-! ### Aperture1 (R128, R129, R130) -/

theorem and_three_toNat (a : Word) : (a &&& 3).toNat = a.toNat % 4 := by
  rw [BitVec.toNat_and]
  exact Nat.and_two_pow_sub_one_eq_mod a.toNat 2

theorem getLsbD_one (a : Word) : a.getLsbD 1 = decide (a.toNat / 2 % 2 = 1) := by
  rw [BitVec.getLsbD, Nat.testBit_eq_decide_div_mod_eq]

/-- The part of a PI word that an access selects: the word, the halfword that bit 1 of the address and the byte order
select, or the byte that bits 1:0 and the byte order select. -/
theorem compose_apertureByte (little : Bool) (n : Width) (w a : Word) :
    compose little n (apertureByte little w (align n a)) =
      match n with
      | .b4 => w
      | .b2 => (halfAt w (if little = a.getLsbD 1 then 1 else 0)).setWidth 32
      | .b1 => (byteAt w (if little then (a &&& 3).toNat else 3 - (a &&& 3).toNat)).setWidth 32 := by
  have hal := align_toNat n a
  cases n with
  | b1 =>
    cases little <;> rfl
  | b2 =>
    have h0 : (align .b2 a &&& 3).toNat = if a.getLsbD 1 then 2 else 0 := by
      simp only [Width.bytes] at hal
      rw [and_three_toNat, getLsbD_one, hal]
      by_cases hb : a.toNat / 2 % 2 = 1 <;> simp [hb] <;> omega
    have hf : apertureByte little w (align .b2 a) =
        fun i => byteAt w (bytePos little .b4 ((if a.getLsbD 1 then 2 else 0) + i)) := by
      funext i
      rw [apertureByte, h0]
    have hlo := congrArg (BitVec.setWidth 32) (byteAt_append w 0)
    have hhi := congrArg (BitVec.setWidth 32) (byteAt_append w 1)
    rw [hf]
    cases little <;> cases a.getLsbD 1 <;> assumption
  | b4 =>
    have h0 : (align .b4 a &&& 3).toNat = 0 := by
      simp only [Width.bytes] at hal
      rw [and_three_toNat]
      omega
    have hf : apertureByte little w (align .b4 a) = fun i => byteAt w (bytePos little .b4 (0 + i)) := by
      funext i
      rw [apertureByte, h0]
    rw [hf]
    cases little <;> exact ofBytes_byteAt w

/-- The opcode of a store by its width and the low bits of the computed address (R130). -/
theorem piStoreOp_align (n : Width) (a : Word) : piStoreOp n (align n a) =
    match n, (a &&& 3).toNat with
    | .b4, _ => .writeWdu
    | .b2, 0 => .writeHw0
    | .b2, 1 => .writeHw0
    | .b2, _ => .writeHw1
    | .b1, 0 => .writeBy0
    | .b1, 1 => .writeBy1
    | .b1, 2 => .writeBy2
    | .b1, _ => .writeBy3 := by
  have hr : (a &&& 3).toNat = 0 ∨ (a &&& 3).toNat = 1 ∨ (a &&& 3).toNat = 2 ∨ (a &&& 3).toNat = 3 := by
    rw [and_three_toNat]
    omega
  cases n with
  | b4 => rfl
  | b1 =>
    simp only [piStoreOp, align]
    rcases hr with hr | hr | hr | hr <;> rw [hr] <;> rfl
  | b2 =>
    have hb : (align .b2 a).getLsbD 1 = decide (2 ≤ (a &&& 3).toNat) := by
      have hal := align_toNat .b2 a
      simp only [Width.bytes] at hal
      rw [getLsbD_one, and_three_toNat, hal]
      congr 1
      apply propext
      omega
    simp only [piStoreOp, hb]
    rcases hr with hr | hr | hr | hr <;> rw [hr] <;> rfl

/-- Settles O34: the value selected from the PI word is extended, and the store makes one transaction. -/
theorem apertureAccessesUseThePiBus : Obligations.ApertureAccessesUseThePiBus := by
  intro g s1 s2 d m s hg ha
  refine ⟨loadForms_of fun i n sg a he hr => ?_, storeForms_of fun i n a v he hr => ?_⟩
  · obtain ⟨t, ht, hlog, hframe⟩ := issueLoad_completes (sg := sg) (d := d) hg ha (by simp [hr]) (memRead_apert1 hr)
    rw [loadValue_eq (by simp [hr]), compose_apertureByte] at hlog hframe
    refine ⟨t, Config.freeWord s.freeCount, _, he.trans ht, ?_, rfl, ?_, hlog, ?_⟩
    · exact congrArg State.piLog hframe
    · exact congrArg State.results hframe
    · rw [hframe]
  · obtain ⟨t, ht, hlog, hframe⟩ := issueStore_completes hg ha (memWrite_apert1 (v := v) hr) rfl
    refine ⟨t, _, he.trans ht, ?_, piStoreOp_align n a, hlog, ?_⟩
    · rw [hframe, ← lowBytes_eq]; rfl
    · rw [hframe]; rfl

end Sys2Proof.Machine
end

section
/-! SUPPORT. Word accesses to the MMIO aperture: its sub-areas and the instruction cache tags; with the statement about
them. -/
namespace Sys2Proof.Machine

/-! ### The sub-areas of the MMIO aperture (R126) -/

theorem mmioArea_tags {off : Nat} (h : off < 0x10000) : mmioArea off = .tags := if_pos h

theorem mmioArea_core {off : Nat} (h : 0x100000 ≤ off) (h' : off < 0x102000) : mmioArea off = .core := by
  rw [mmioArea, if_neg (by omega), if_pos ⟨h, h'⟩]

theorem mmioArea_bus {off : Nat} (h : 0x10000 ≤ off ∧ off < 0x100000 ∨ 0x102000 ≤ off) : mmioArea off = .bus := by
  rw [mmioArea, if_neg (by omega), if_neg (by omega)]

/-- The offset of an address in the MMIO aperture. -/
def mmioOffset (a : Word) : Nat := (a.extractLsb' 0 21).toNat

section
variable {s : State} {a : Word}

theorem mmioLoad_tags (h : mmioOffset a < 0x10000) : s.mmioLoad a = s.readTagArea (a.extractLsb' 0 21) := by
  have ha : mmioArea (a.extractLsb' 0 21).toNat = .tags := mmioArea_tags h
  delta State.mmioLoad; simp only; rw [ha]

theorem mmioLoad_core (h : 0x100000 ≤ mmioOffset a) (h' : mmioOffset a < 0x102000) :
    s.mmioLoad a = .ok (s.readMmioReg (mmioReg (mmioOffset a))) := by
  have ha : mmioArea (a.extractLsb' 0 21).toNat = .core := mmioArea_core h h'
  delta State.mmioLoad; simp only; rw [ha]
  rfl

theorem mmioLoad_bus (h : 0x10000 ≤ mmioOffset a ∧ mmioOffset a < 0x100000 ∨ 0x102000 ≤ mmioOffset a) :
    s.mmioLoad a = .ok (s.piReadWord a) := by
  have ha : mmioArea (a.extractLsb' 0 21).toNat = .bus := mmioArea_bus h
  delta State.mmioLoad; simp only; rw [ha]

variable {v : Word}

theorem mmioStore_tags (h : mmioOffset a < 0x10000) : s.mmioStore a v = .ok s := by
  have ha : mmioArea (a.extractLsb' 0 21).toNat = .tags := mmioArea_tags h
  delta State.mmioStore; simp only; rw [ha]

theorem mmioStore_core (h : 0x100000 ≤ mmioOffset a) (h' : mmioOffset a < 0x102000) (hp : mmioOffset a ≠ 0x100108) :
    s.mmioStore a v = s.writeMmioReg (mmioReg (mmioOffset a)) v := by
  have ha : mmioArea (a.extractLsb' 0 21).toNat = .core := mmioArea_core h h'
  have hr : mmioReg (a.extractLsb' 0 21).toNat ≠ .powerDown := fun hc => hp (mmioReg_eq hc nofun)
  delta State.mmioStore; simp only; rw [ha]
  rfl

theorem mmioStore_powerDown (h : mmioOffset a = 0x100108) : s.mmioStore a v = .ok s.requestPowerDown := by
  have ha : mmioArea (a.extractLsb' 0 21).toNat = .core := by rw [← mmioOffset, h]; rfl
  have hr : mmioReg (a.extractLsb' 0 21).toNat = .powerDown := by rw [← mmioOffset, h]; rfl
  delta State.mmioStore; simp only; rw [ha, hr]

theorem mmioStore_bus (h : 0x10000 ≤ mmioOffset a ∧ mmioOffset a < 0x100000 ∨ 0x102000 ≤ mmioOffset a) :
    s.mmioStore a v = .ok (s.piTransaction .writeWdu a v) := by
  have ha : mmioArea (a.extractLsb' 0 21).toNat = .bus := mmioArea_bus h
  delta State.mmioStore; simp only; rw [ha]

end

/-- A store to POWER_DOWN leaves a count that is running, and else starts one at a free value (R660, log 19). -/
theorem requestPowerDown_eq (s : State) : ∃ n k, s.requestPowerDown =
    { s with sleepIn := some (s.sleepIn.getD n), freeCount := k } := by
  unfold State.requestPowerDown
  split
  · next m h => exact ⟨0, s.freeCount, by rw [h]; cases s; cases h; rfl⟩
  · next h => exact ⟨Config.freeNat s.freeCount, s.freeCount + 1, by rw [h]; rfl⟩

/-! ### The instruction cache tags (R163) -/

theorem readTagArea_refused {s : State} (off : BitVec 21) (h : s.issue.iclr = true ∨ s.iclrPrev = true) :
    s.readTagArea off = .error .tagReadAfterIclr := if_pos (by simpa using h)

/-- What a load of the tag area reads: the LRU bits of a set, or the valid bit and tag of an element. -/
theorem readTagArea_spec {s : State} {off : BitVec 21} (hoff : off.toNat < 0x10000) (hi : s.issue.iclr = false)
    (hp : s.iclrPrev = false) :
    let set := off.toNat / 4 % 512
    let element := off.toNat / 2048 % 16
    let l := s.icache[Fin.ofNat 64 set].lines[Fin.ofNat 8 element]
    ∃ p, s.readTagArea off = .ok p
      ∧ (set < 64 → 0x8000 ≤ off.toNat → p.1 = s.icache[Fin.ofNat 64 set].lru.image.setWidth 32)
      ∧ (set < 64 → off.toNat < 0x8000 → element < 8 →
        p.1.extractLsb' 21 11 = 0 ∧ p.1.getLsbD 20 = l.valid ∧ (l.valid = true → p.1.extractLsb' 0 20 = l.tag)) := by
  intro set element l
  have hset : (off.extractLsb' 2 9).toNat = set := by
    rw [BitVec.extractLsb'_toNat, Nat.shiftRight_eq_div_pow]
  have helem : (off.extractLsb' 11 4).toNat = element := by
    rw [BitVec.extractLsb'_toNat, Nat.shiftRight_eq_div_pow]
  have hlru : off.getLsbD 15 = decide (0x8000 ≤ off.toNat) := by
    rw [BitVec.getLsbD, Nat.testBit_eq_decide_div_mod_eq]
    congr 1
    apply propext
    omega
  simp only [State.readTagArea, hi, hp, hset, helem, hlru, Bool.or_self, if_neg Bool.false_ne_true, decide_eq_true_eq]
  split_ifs with h1 h2 h3 h4
  · exact ⟨_, rfl, fun h => absurd h (by omega), fun h => absurd h (by omega)⟩
  · exact ⟨_, rfl, fun _ _ => rfl, fun _ h => absurd h (by omega)⟩
  · exact ⟨_, rfl, fun _ h => absurd h h2, fun _ _ h => absurd h (by omega)⟩
  · obtain ⟨hz, hv, ht⟩ := tagFields (h := 11) 1 l.tag
    exact ⟨_, rfl, fun _ h => absurd h h2, fun _ _ _ => ⟨hz, hv.trans h4.symm, fun _ => ht⟩⟩
  · obtain ⟨hz, hv, -⟩ := tagFields (h := 11) 0 ((Config.freeWord s.freeCount).extractLsb' 0 20)
    exact ⟨_, rfl, fun _ h => absurd h h2, fun _ _ _ =>
      ⟨hz, hv.trans (Bool.eq_false_of_not_eq_true h4).symm, fun h => absurd h h4⟩⟩

/-! ### Word accesses (R111, R125) -/

/-- A word load from the MMIO aperture delivers the word read. -/
theorem wordLoad_completes {g d : Reg} {a : Word} {s : State} {p : Word × State} {i : Instr}
    (he : exec i s = issueLoad .b4 false g a d s) (hg : s.guard g = true) (ha : s.issue.accesses = [])
    (hr : s.region (align .b4 a) = .mmio) (hm : s.mmioLoad (align .b4 a) = .ok p) :
    ∃ t, exec i s = .next t ∧ Logged s t false a p.1
      ∧ t = { s with
        results := ⟨d, p.1, 3⟩ :: s.results
        issue := t.issue
        freeCount := t.freeCount
        piLog := p.2.piLog } := by
  obtain ⟨t, ht, hlog, hframe⟩ := issueLoad_completes (sg := false) (d := d) hg ha (by simp [hr])
    ((memRead_mmio hr).trans hm)
  rw [loadValue_mmio hr] at hlog hframe
  exact ⟨t, he.trans ht, hlog, hframe⟩

/-- A word store to the MMIO aperture does what the write does, sets its flag where it is misaligned and is logged. -/
theorem wordStore_completes {g : Reg} {a v : Word} {s u : State} {i : Instr}
    (he : exec i s = issueStore .b4 g a v s) (hg : s.guard g = true) (ha : s.issue.accesses = [])
    (hr : s.region (align .b4 a) = .mmio) (hm : s.mmioStore (align .b4 a) v = .ok u) (hi : u.issue = s.issue)
    (hf : u.flagUpdates = s.flagUpdates) :
    ∃ t, exec i s = .next t ∧ Logged s t true a v
      ∧ t = { u with
        flagUpdates := if align .b4 a = a then s.flagUpdates else ⟨0x8000, 1⟩ :: s.flagUpdates
        issue := t.issue } := by
  obtain ⟨t, ht, hlog, hframe⟩ := issueStore_completes hg ha ((memWrite_mmio hr).trans hm) hi
  rw [← lowBytes_eq] at hlog
  rw [hf] at hframe
  exact ⟨t, he.trans ht, hlog, hframe⟩

/-- Settles O35: by the sub-area of the offset. -/
theorem wordAccessesReachMmioRegisters : Obligations.WordAccessesReachMmioRegisters := by
  intro g s1 s2 d m s hg ha
  refine ⟨wordLoadForms_of fun i a he hr => ⟨fun h h' => ?_, fun h hi => ?_, fun h hi hp => ?_, fun h => ?_⟩,
    wordStoreForms_of fun i a v he hr => ⟨fun u h h' hne hu => ?_, fun h => ?_, fun h => ?_, fun h => ?_⟩⟩
  · obtain ⟨t, ht, hlog, hframe⟩ := wordLoad_completes he hg ha hr (mmioLoad_core h h')
    rw [readMmioReg_frame] at hframe
    exact ⟨t, _, ht, rfl, hlog, hframe⟩
  · refine he.trans (issueLoad_refused hg ?_)
    rw [memRead_mmio hr, mmioLoad_tags h, readTagArea_refused _ hi]
  · obtain ⟨p, hread, hlru, htag⟩ := readTagArea_spec h hi hp
    obtain ⟨t, ht, hlog, hframe⟩ := wordLoad_completes he hg ha hr ((mmioLoad_tags h).trans hread)
    rw [readTagArea_frame hread] at hframe
    exact ⟨t, _, ht, hlog, hframe, hlru, htag⟩
  · obtain ⟨t, ht, hlog, hframe⟩ := wordLoad_completes he hg ha hr (mmioLoad_bus h)
    refine ⟨t, (s.piReadWord (align .b4 a)).1, ht, congrArg State.piLog hframe, hlog, ?_⟩
    rw [hframe]
  · have hframe' := writeMmioReg_frame hu
    obtain ⟨t, ht, hlog, hframe⟩ := wordStore_completes he hg ha hr ((mmioStore_core h h' hne).trans hu)
      (by rw [hframe']) (by rw [hframe'])
    refine ⟨t, ht, hlog, ?_⟩
    rw [hframe]
  · obtain ⟨n, k, hpd⟩ := requestPowerDown_eq s
    obtain ⟨t, ht, hlog, hframe⟩ := wordStore_completes he hg ha hr (mmioStore_powerDown h) (by rw [hpd]) (by rw [hpd])
    refine ⟨t, n, ht, hlog, ?_⟩
    rw [hframe, hpd]
  · obtain ⟨t, ht, hlog, hframe⟩ := wordStore_completes he hg ha hr (mmioStore_tags h) rfl rfl
    refine ⟨t, ht, hlog, ?_⟩
    rw [hframe]
  · obtain ⟨t, ht, hlog, hframe⟩ := wordStore_completes he hg ha hr (mmioStore_bus h) rfl rfl
    refine ⟨t, ht, hlog, ?_⟩
    rw [hframe]
    rfl

end Sys2Proof.Machine
end

section
/-! SUPPORT. The instruction cache: what bringing a block in finds, fills and keeps, the bytes of an instruction, and
iclr; with the statements about them. -/
namespace Sys2Proof.Machine

/-! ### Blocks of instruction addresses -/

theorem blockOf_toNat (a : Word) : (blockOf a).toNat = a.toNat / 64 := by
  have := a.isLt
  simp only [blockOf, BitVec.extractLsb'_toNat, Nat.shiftRight_eq_div_pow]
  omega

theorem iSet_val (a : Word) : (iSet a).val = a.toNat / 64 % 64 := by
  show (a.extractLsb' 6 6).toNat = _
  rw [BitVec.extractLsb'_toNat, Nat.shiftRight_eq_div_pow]

theorem iTag_toNat (a : Word) : (iTag a).toNat = a.toNat / 64 / 64 := by
  have := a.isLt
  simp only [iTag, BitVec.extractLsb'_toNat, Nat.shiftRight_eq_div_pow]
  omega

/-- Addresses of one block have the same set and tag. -/
theorem iSet_iTag_block {a b : Word} (h : blockOf b = blockOf a) : iSet b = iSet a ∧ iTag b = iTag a := by
  have hn : b.toNat / 64 = a.toNat / 64 := by rw [← blockOf_toNat, ← blockOf_toNat, h]
  exact ⟨Fin.ext (by rw [iSet_val, iSet_val, hn]), BitVec.eq_of_toNat_eq (by rw [iTag_toNat, iTag_toNat, hn])⟩

/-- The two blocks of an instruction are one block or lie in different sets. -/
theorem image_blocks_apart (pc : Word) : blockOf (pc + 31) = blockOf pc ∨ iSet (pc + 31) ≠ iSet pc := by
  by_cases h : blockOf (pc + 31) = blockOf pc
  · exact .inl h
  · refine .inr fun hs => h (BitVec.eq_of_toNat_eq ?_)
    have hv := congrArg Fin.val hs
    have := pc.isLt
    have h31 : (31 : Word).toNat = 31 := rfl
    rw [iSet_val, iSet_val, BitVec.toNat_add, h31] at hv
    rw [blockOf_toNat, blockOf_toNat, BitVec.toNat_add, h31]
    omega

/-- Every byte of an instruction lies in its first or its last block. -/
theorem image_byte_block (pc : Word) {k : Nat} (hk : k < 32) :
    blockOf (pc + BitVec.ofNat 32 k) = blockOf pc ∨ blockOf (pc + BitVec.ofNat 32 k) = blockOf (pc + 31) := by
  have hpc := pc.isLt
  have hb : ∀ b : Word, blockOf (pc + BitVec.ofNat 32 k) = blockOf b ↔ (pc.toNat + k) % 2 ^ 32 / 64 = b.toNat / 64 := by
    intro b
    rw [← BitVec.toNat_inj, blockOf_toNat, blockOf_toNat, BitVec.toNat_add, BitVec.toNat_ofNat,
      Nat.mod_eq_of_lt (show k < 2 ^ 32 by omega)]
  rw [hb, hb, BitVec.toNat_add, show (31 : Word).toNat = 31 from rfl]
  omega

/-! ### Bringing a block in (R160, R162) -/

theorem icache_set_get (ic : ICache) (k j : Fin 64) (x : CacheSet 20) : (ic.set k x)[j] = if j = k then x else ic[j] := by
  show (ic.set k x)[j.val] = _
  rw [Vector.getElem_set]
  by_cases h : k = j
  · simp [h]
  · rw [if_neg (fun e => h (Fin.ext e)), if_neg (fun e => h e.symm)]
    rfl

section
variable {ic : ICache} {a b : Word} (m : Mem) (free : Nat)

theorem ensure_hit {e : Fin 8} (h : ic[iSet a].find (iTag a) = some e) :
    ic.ensure m a free = (ic.set (iSet a) (ic[iSet a].reference e), false) := by
  simp only [ICache.ensure, h]

theorem ensure_miss (h : ic[iSet a].find (iTag a) = none) : ic.ensure m a free =
    (ic.set (iSet a) ((ic[iSet a].setLine (ic[iSet a].victim free)
      ⟨true, false, ic[iSet a].lines[ic[iSet a].victim free].locked, iTag a, m.readBlock (blockOf a)⟩).reference
        (ic[iSet a].victim free)), true) := by
  simp only [ICache.ensure, h]

/-- It misses where the lookup finds nothing. -/
theorem ensure_missed : (ic.ensure m a free).2 = (ic[iSet a].find (iTag a)).isNone := by
  cases h : ic[iSet a].find (iTag a) with
  | some e => rw [ensure_hit m free h]; rfl
  | none => rw [ensure_miss m free h]; rfl

/-- Another set is left alone. -/
theorem ensure_other {j : Fin 64} (h : j ≠ iSet a) : (ic.ensure m a free).1[j] = ic[j] := by
  cases hf : ic[iSet a].find (iTag a) with
  | some e => rw [ensure_hit m free hf, icache_set_get, if_neg h]
  | none => rw [ensure_miss m free hf, icache_set_get, if_neg h]

/-- An element keeps its block unless it is filled on a miss. -/
theorem ensure_lines (j : Fin 64) (e : Fin 8) : (ic.ensure m a free).1[j].lines[e] = ic[j].lines[e]
    ∨ j = iSet a ∧ ic[j].find (iTag a) = none
      ∧ (ic.ensure m a free).1[j].lines[e] = ⟨true, false, ic[j].lines[e].locked, iTag a, m.readBlock (blockOf a)⟩ := by
  by_cases hj : j = iSet a
  · subst hj
    cases hf : ic[iSet a].find (iTag a) with
    | some f =>
      rw [ensure_hit m free hf, icache_set_get, if_pos rfl]
      exact .inl rfl
    | none =>
      rw [ensure_miss m free hf, icache_set_get, if_pos rfl]
      by_cases he : e = ic[iSet a].victim free
      · subst he
        exact .inr ⟨rfl, rfl, (setLine_get ..).trans (if_pos rfl)⟩
      · exact .inl ((setLine_get ..).trans (if_neg he))
  · rw [ensure_other m free hj]
    exact .inl rfl

/-- The cache finds the block of `a`, with the bytes `d`. -/
def ICache.Holds (ic : ICache) (a : Word) (d : Block) : Prop :=
  ∃ e, ic[iSet a].find (iTag a) = some e ∧ ic[iSet a].lines[e].data = d

theorem holds_byte {d : Block} (h : ic.Holds a d) : ic.byte a = d[blockOffset a] := by
  obtain ⟨e, hf, hd⟩ := h
  simp only [ICache.byte, hf, ← hd]

theorem holds_block {d : Block} (hb : blockOf b = blockOf a) (h : ic.Holds a d) : ic.Holds b d := by
  obtain ⟨hs, ht⟩ := iSet_iTag_block hb
  obtain ⟨e, hf, hd⟩ := h
  refine ⟨e, ?_, ?_⟩
  · simpa only [hs, ht] using hf
  · simpa only [hs] using hd

/-- A set that is left alone holds what it held. -/
theorem holds_congr {ic' : ICache} {d : Block} (h : ic'[iSet a] = ic[iSet a]) : ic'.Holds a d ↔ ic.Holds a d := by
  unfold ICache.Holds
  rw [h]

/-- A block that is there stays, and it is found where it was. -/
theorem ensure_holds_hit {d : Block} (h : ic.Holds a d) : (ic.ensure m a free).1.Holds a d := by
  obtain ⟨e, hf, hd⟩ := h
  refine ⟨e, ?_, ?_⟩ <;> rw [ensure_hit m free hf, icache_set_get, if_pos rfl]
  · exact (find_congr _ fun _ => ⟨rfl, rfl⟩).trans hf
  · exact hd

/-- A block that is missing is filled from SDRAM. -/
theorem ensure_holds_miss (h : ic[iSet a].find (iTag a) = none) :
    (ic.ensure m a free).1.Holds a (m.readBlock (blockOf a)) := by
  have hl : ∀ f : Fin 8, (ic.ensure m a free).1[iSet a].lines[f] = if f = ic[iSet a].victim free
      then ⟨true, false, ic[iSet a].lines[ic[iSet a].victim free].locked, iTag a, m.readBlock (blockOf a)⟩
      else ic[iSet a].lines[f] := fun f => by
    rw [ensure_miss m free h, icache_set_get, if_pos rfl]
    exact setLine_get ..
  refine ⟨ic[iSet a].victim free, find_of_only ?_ ?_ fun f hf => ?_, ?_⟩
  · rw [hl, if_pos rfl]
  · rw [hl, if_pos rfl]
  · rw [hl, if_neg hf]
    exact find_none.1 h f
  · rw [hl, if_pos rfl]

/-- A block that is there stays where a block that is the same one, or of another set, is brought in. -/
theorem ensure_keeps {d : Block} (hb : blockOf b = blockOf a ∨ iSet b ≠ iSet a) (h : ic.Holds b d) :
    (ic.ensure m a free).1.Holds b d := by
  rcases hb with hb | hb
  · exact holds_block hb (ensure_holds_hit m free (holds_block hb.symm h))
  · exact (holds_congr (ensure_other m free hb)).2 h

/-- Afterwards the block is there. -/
theorem ensure_finds : (ic.ensure m a free).1[iSet a].find (iTag a) ≠ none := by
  have h : ∃ d, (ic.ensure m a free).1.Holds a d := by
    cases hf : ic[iSet a].find (iTag a) with
    | some e => exact ⟨_, ensure_holds_hit m free ⟨e, hf, rfl⟩⟩
    | none => exact ⟨_, ensure_holds_miss m free hf⟩
  obtain ⟨d, e, he, -⟩ := h
  rw [he]
  exact Option.some_ne_none e

/-! ### Both blocks of an instruction -/

theorem ensureImage_eq (ic : ICache) (pc : Word) : ic.ensureImage m pc free =
    let p := ic.ensure m pc (Config.freeNat free)
    let q := p.1.ensure m (pc + 31) (Config.freeNat (free + 1))
    (q.1, p.2.toNat + q.2.toNat) := rfl

/-- A block of the instruction that is there stays. -/
theorem ensureImage_keeps {pc : Word} {d : Block} (hb : blockOf b = blockOf pc ∨ blockOf b = blockOf (pc + 31))
    (h : ic.Holds b d) : (ic.ensureImage m pc free).1.Holds b d := by
  rw [ensureImage_eq]
  have hapart := image_blocks_apart pc
  rcases hb with hb | hb
  · refine holds_block hb (ensure_keeps m _ ?_ (ensure_keeps m _ (.inl rfl) (holds_block hb.symm h)))
    exact hapart.imp Eq.symm Ne.symm
  · exact holds_block hb (ensure_keeps m _ (.inl rfl) (ensure_keeps m _ hapart (holds_block hb.symm h)))

/-- With both blocks missing, the last one is missing after the first has been brought in, unless they are one. -/
theorem ensure_find_last {pc : Word} (h : ic[iSet (pc + 31)].find (iTag (pc + 31)) = none)
    (hb : blockOf (pc + 31) ≠ blockOf pc) :
    (ic.ensure m pc free).1[iSet (pc + 31)].find (iTag (pc + 31)) = none := by
  rw [ensure_other m free ((image_blocks_apart pc).resolve_left hb)]
  exact h

/-- With both blocks missing, each is filled from SDRAM. -/
theorem ensureImage_fills {pc : Word} (h0 : ic[iSet pc].find (iTag pc) = none)
    (h1 : ic[iSet (pc + 31)].find (iTag (pc + 31)) = none)
    (hb : blockOf b = blockOf pc ∨ blockOf b = blockOf (pc + 31)) :
    (ic.ensureImage m pc free).1.Holds b (m.readBlock (blockOf b)) := by
  rw [ensureImage_eq]
  have hapart := image_blocks_apart pc
  have hfirst := ensure_keeps m (Config.freeNat (free + 1)) (hapart.imp Eq.symm Ne.symm)
    (ensure_holds_miss m (Config.freeNat free) h0)
  by_cases hpc : blockOf b = blockOf pc
  · rw [hpc]
    exact holds_block hpc hfirst
  · have hlast := hb.resolve_left hpc
    rw [hlast]
    exact holds_block hlast (ensure_holds_miss m _ (ensure_find_last m _ h1 (hlast ▸ hpc)))

/-- With both blocks missing, each is a miss. -/
theorem ensureImage_misses {pc : Word} (h0 : ic[iSet pc].find (iTag pc) = none)
    (h1 : ic[iSet (pc + 31)].find (iTag (pc + 31)) = none) :
    (ic.ensureImage m pc free).2 = if blockOf pc = blockOf (pc + 31) then 1 else 2 := by
  rw [ensureImage_eq]
  simp only [ensure_missed, h0]
  by_cases hb : blockOf pc = blockOf (pc + 31)
  · obtain ⟨hs, ht⟩ := iSet_iTag_block hb.symm
    have hf := ensure_finds (ic := ic) (a := pc) m (Config.freeNat free)
    simp only [hs, ht, if_pos hb]
    rw [Option.isNone_eq_false_iff.2 (Option.isSome_iff_ne_none.2 hf)]
    rfl
  · rw [ensure_find_last m _ h1 (Ne.symm hb), if_neg hb]
    rfl

/-- An element keeps its block unless it is filled with a block of the instruction that was missing. -/
theorem ensureImage_lines (pc : Word) (j : Fin 64) (e : Fin 8) :
    (ic.ensureImage m pc free).1[j].lines[e] = ic[j].lines[e]
    ∨ ∃ a ∈ [pc, pc + 31], j = iSet a ∧ ic[j].find (iTag a) = none
      ∧ (ic.ensureImage m pc free).1[j].lines[e] =
        ⟨true, false, ic[j].lines[e].locked, iTag a, m.readBlock (blockOf a)⟩ := by
  rw [ensureImage_eq]
  dsimp only
  have hfirst := ensure_lines (ic := ic) (a := pc) m (Config.freeNat free) j e
  rcases ensure_lines (ic := (ic.ensure m pc (Config.freeNat free)).1) (a := pc + 31) m (Config.freeNat (free + 1)) j e
    with h | ⟨hj, hf, h⟩
  · rw [h]
    exact hfirst.imp_right fun hf => ⟨pc, by simp, hf⟩
  · rcases image_blocks_apart pc with hb | hb
    · obtain ⟨hs, ht⟩ := iSet_iTag_block hb
      rw [hj, hs, ht] at hf
      exact absurd hf (ensure_finds m _)
    · have hsame := ensure_other (ic := ic) (a := pc) m (Config.freeNat free) (hj ▸ hb)
      rw [hsame] at hf h
      exact .inr ⟨pc + 31, by simp, hj, hf, h⟩

/-- The sets of no block of the instruction are left alone. -/
theorem ensureImage_other {pc : Word} {j : Fin 64} (h0 : j ≠ iSet pc) (h1 : j ≠ iSet (pc + 31)) :
    (ic.ensureImage m pc free).1[j] = ic[j] := by
  rw [ensureImage_eq]
  exact (ensure_other m _ h1).trans (ensure_other m _ h0)

end

theorem mem_readBlock_get (m : Mem) (a : Word) : (m.readBlock (blockOf a))[blockOffset a] = m.read a.toNat := by
  simp only [Mem.readBlock, Fin.getElem_fin, Vector.getElem_ofFn]
  rw [blockBase_add_offset]

/-! ### The fetch (R160, R552) -/

theorem fetched_old {s : State} {o : OldICache} {os : List OldICache} (ic : ICache) (h : s.icacheOld = o :: os) :
    s.fetched ic = { s with icacheOld := if o.left ≤ 1 then os else ⟨ic, o.left - 1⟩ :: os } := by
  simp only [State.fetched, h]

theorem fetched_current {s : State} (ic : ICache) (h : s.icacheOld = []) : s.fetched ic = { s with icache := ic } := by
  simp only [State.fetched, h]

theorem fetched_events (s : State) (ic : ICache) : (s.fetched ic).cacheEvents = s.cacheEvents := by
  unfold State.fetched
  split <;> rfl

/-- The cache that the instruction at PC is read from, with its blocks brought in, and the number of misses. -/
def State.imageCache (s : State) : ICache × Nat := s.fetchCache.ensureImage s.mem s.pc s.freeCount

theorem fetch_bytes (s : State) :
    s.fetch.1 = (List.range 32).map fun i => s.imageCache.1.byte (s.pc + BitVec.ofNat 32 i) := rfl

theorem fetch_state (s : State) :
    s.fetch.2 = (s.drawn.drawn.fetched s.imageCache.1).countEvent 1 s.imageCache.2 := rfl

/-- A byte of the instruction comes from the cache that is fetched from, where its block is there. -/
theorem fetch_byte {s : State} {k : Nat} (hk : k < 32) {e : Fin 8}
    (h : s.fetchCache[iSet (s.pc + BitVec.ofNat 32 k)].find (iTag (s.pc + BitVec.ofNat 32 k)) = some e) :
    s.fetch.1[k]? = some (s.fetchCache[iSet (s.pc + BitVec.ofNat 32 k)].lines[e].data[blockOffset
      (s.pc + BitVec.ofNat 32 k)]) := by
  have hd : s.imageCache.1.Holds (s.pc + BitVec.ofNat 32 k) _ :=
    ensureImage_keeps s.mem s.freeCount (image_byte_block s.pc hk) ⟨e, h, rfl⟩
  rw [fetch_bytes, ← holds_byte hd]
  simp [hk]

/-- Settles O6: both blocks are filled from SDRAM, and each is a miss. -/
theorem fetchReadsSdram : Obligations.FetchReadsSdram := by
  intro s _ h0 h1
  constructor
  · rw [fetch_bytes]
    refine List.map_congr_left fun k hk => ?_
    have hd : s.imageCache.1.Holds (s.pc + BitVec.ofNat 32 k) _ :=
      ensureImage_fills s.mem s.freeCount h0 h1 (image_byte_block s.pc (List.mem_range.1 hk))
    rw [holds_byte hd, mem_readBlock_get]
  · have hn : s.imageCache.2 = _ := ensureImage_misses s.mem s.freeCount h0 h1
    rw [fetch_state, ← hn]
    refine (countEvent_get _ 1 1 _).trans ?_
    rw [if_pos rfl, fetched_events]
    rfl

/-! ### iclr (R161, R552) -/

theorem clearICache_empty (s : State) (k : Fin 64) : (∀ e : Fin 8, s.clearICache.icache[k].lines[e].valid = false)
    ∧ s.clearICache.icache[k].lru = Lru.initial := by
  have h : s.clearICache.icache = mapEach (fun c => { c with lru := Lru.initial }) s.icache.invalidate := rfl
  constructor
  · intro e
    simp only [h, ICache.invalidate, Fin.getElem_fin, mapEach_get]
  · simp only [h, Fin.getElem_fin, mapEach_get]

theorem clearICache_old (s : State) : s.clearICache.icacheOld = s.icacheOld ++
    (if oldFetches s.icacheOld < 2 then [⟨s.icache, 2 - oldFetches s.icacheOld⟩] else []) := by
  show (if _ then _ else _) = _
  split <;> simp

/-- Settles O45: iclr makes every element invalid and keeps the cache as it was for the next two instructions, whose
fetches take the blocks that are there from it. -/
theorem iclrEmptiesTheInstructionCache : Obligations.IclrEmptiesTheInstructionCache := by
  refine ⟨fun g s => ⟨fun hg => if_neg (by simp [hg]), fun hg => ⟨s.clearICache, if_pos hg, fun k =>
    (clearICache_empty s k).1, fun k => (clearICache_empty s k).2, clearICache_old s, rfl⟩⟩, fun s => ⟨?_, ?_⟩⟩
  · intro o os ho
    have hc : s.fetchCache = o.cache := by simp only [State.fetchCache, ho]
    have hfetch : s.fetch.2.icache = s.icache ∧ s.fetch.2.icacheOld =
        if o.left ≤ 1 then os else ⟨s.imageCache.1, o.left - 1⟩ :: os := by
      rw [fetch_state, fetched_old (s := s.drawn.drawn) _ ho]
      exact ⟨rfl, rfl⟩
    rw [State.imageCache, hc] at hfetch
    refine ⟨hfetch.1, fun hl => hfetch.2.trans (if_pos hl), fun hl => ⟨_, hfetch.2.trans (if_neg (by omega)),
      fun j h0 h1 => ensureImage_other _ _ h0 h1, fun j e => ensureImage_lines _ _ s.pc j e⟩, fun k hk e h => ?_⟩
    simp only [← hc] at h ⊢
    exact fetch_byte hk h
  · intro ho
    have hc : s.fetchCache = s.icache := by simp only [State.fetchCache, ho]
    refine ⟨?_, fun k hk e h => ?_⟩
    · rw [fetch_state, fetched_current (s := s.drawn.drawn) _ ho]
      exact ho
    · simp only [← hc] at h ⊢
      exact fetch_byte hk h

end Sys2Proof.Machine
end

section
/-! SUPPORT. The container format (log 1) both ways: what is encoded decodes to itself, and a record that decodes is what
its operation encodes to; so the encoder gives the only record of each operation. -/
namespace Sys2Proof.Laws.RoundTrip

/-- Every operation with a legal modifier comes back from its record: the lemmas of this namespace put together. -/
theorem every : ∀ i : Instr, Statement i
  | .alloc .., h => alloc _ _ h | .allocd .., h => allocd _ _ _ h | .allocr .., h => allocr _ _ _ h
  | .allocx .., h => allocx _ _ _ h | .asl .., h => asl _ _ _ _ h | .asli .., h => asli _ _ _ _ h
  | .asr .., h => asr _ _ _ _ h | .asri .., h => asri _ _ _ _ h | .bitand .., h => bitand _ _ _ _ h
  | .bitandinv .., h => bitandinv _ _ _ _ h | .bitinv .., h => bitinv _ _ _ h | .bitor .., h => bitor _ _ _ _ h
  | .bitxor .., h => bitxor _ _ _ _ h | .borrow .., h => borrow _ _ _ _ h | .carry .., h => carry _ _ _ _ h
  | .curcycles .., h => curcycles _ _ h | .cycles .., h => cycles _ _ h | .dcb .., h => dcb _ _ _ h
  | .dinvalid .., h => dinvalid _ _ _ h | .dspiabs .., h => dspiabs _ _ _ h | .dspiadd .., h => dspiadd _ _ _ _ h
  | .dspidualabs .., h => dspidualabs _ _ _ h | .dspidualadd .., h => dspidualadd _ _ _ _ h
  | .dspidualmul .., h => dspidualmul _ _ _ _ h | .dspidualsub .., h => dspidualsub _ _ _ _ h
  | .dspimul .., h => dspimul _ _ _ _ h | .dspisub .., h => dspisub _ _ _ _ h | .dspuadd .., h => dspuadd _ _ _ _ h
  | .dspumul .., h => dspumul _ _ _ _ h | .dspuquadaddui .., h => dspuquadaddui _ _ _ _ h
  | .dspusub .., h => dspusub _ _ _ _ h | .dualasr .., h => dualasr _ _ _ _ h
  | .dualiclipi .., h => dualiclipi _ _ _ _ h | .dualuclipi .., h => dualuclipi _ _ _ _ h
  | .fabsval .., h => fabsval _ _ _ h | .fabsvalflags .., h => fabsvalflags _ _ _ h | .fadd .., h => fadd _ _ _ _ h
  | .faddflags .., h => faddflags _ _ _ _ h | .fdiv .., h => fdiv _ _ _ _ h | .fdivflags .., h => fdivflags _ _ _ _ h
  | .feql .., h => feql _ _ _ _ h | .feqlflags .., h => feqlflags _ _ _ _ h | .fgeq .., h => fgeq _ _ _ _ h
  | .fgeqflags .., h => fgeqflags _ _ _ _ h | .fgtr .., h => fgtr _ _ _ _ h | .fgtrflags .., h => fgtrflags _ _ _ _ h
  | .fleq .., h => fleq _ _ _ _ h | .fleqflags .., h => fleqflags _ _ _ _ h | .fles .., h => fles _ _ _ _ h
  | .flesflags .., h => flesflags _ _ _ _ h | .fmul .., h => fmul _ _ _ _ h | .fmulflags .., h => fmulflags _ _ _ _ h
  | .fneq .., h => fneq _ _ _ _ h | .fneqflags .., h => fneqflags _ _ _ _ h | .fsign .., h => fsign _ _ _ h
  | .fsignflags .., h => fsignflags _ _ _ h | .fsqrt .., h => fsqrt _ _ _ h | .fsqrtflags .., h => fsqrtflags _ _ _ h
  | .fsub .., h => fsub _ _ _ _ h | .fsubflags .., h => fsubflags _ _ _ _ h | .funshift1 .., h => funshift1 _ _ _ _ h
  | .funshift2 .., h => funshift2 _ _ _ _ h | .funshift3 .., h => funshift3 _ _ _ _ h
  | .hDspiabs .., h => hDspiabs _ _ _ _ h | .hDspidualabs .., h => hDspidualabs _ _ _ _ h
  | .hIabs .., h => hIabs _ _ _ _ h | .hSt16d .., h => hSt16d _ _ _ _ h | .hSt32d .., h => hSt32d _ _ _ _ h
  | .hSt8d .., h => hSt8d _ _ _ _ h | .hicycles .., h => hicycles _ _ h | .iabs .., h => iabs _ _ _ h
  | .iadd .., h => iadd _ _ _ _ h | .iaddi .., h => iaddi _ _ _ _ h | .iavgonep .., h => iavgonep _ _ _ _ h
  | .ibytesel .., h => ibytesel _ _ _ _ h | .iclipi .., h => iclipi _ _ _ _ h | .iclr .., h => iclr _ h
  | .ident .., h => ident _ _ _ h | .ieql .., h => ieql _ _ _ _ h | .ieqli .., h => ieqli _ _ _ _ h
  | .ifir16 .., h => ifir16 _ _ _ _ h | .ifir8ii .., h => ifir8ii _ _ _ _ h | .ifir8ui .., h => ifir8ui _ _ _ _ h
  | .ifixieee .., h => ifixieee _ _ _ h | .ifixieeeflags .., h => ifixieeeflags _ _ _ h
  | .ifixrz .., h => ifixrz _ _ _ h | .ifixrzflags .., h => ifixrzflags _ _ _ h | .iflip .., h => iflip _ _ _ _ h
  | .ifloat .., h => ifloat _ _ _ h | .ifloatflags .., h => ifloatflags _ _ _ h | .ifloatrz .., h => ifloatrz _ _ _ h
  | .ifloatrzflags .., h => ifloatrzflags _ _ _ h | .igeq .., h => igeq _ _ _ _ h | .igeqi .., h => igeqi _ _ _ _ h
  | .igtr .., h => igtr _ _ _ _ h | .igtri .., h => igtri _ _ _ _ h | .iimm .., h => iimm _ _ h
  | .ijmpf .., h => ijmpf _ _ _ h | .ijmpi .., h => ijmpi _ _ h | .ijmpt .., h => ijmpt _ _ _ h
  | .ild16 .., h => ild16 _ _ _ h | .ild16d .., h => ild16d _ _ _ _ h | .ild16r .., h => ild16r _ _ _ _ h
  | .ild16x .., h => ild16x _ _ _ _ h | .ild8 .., h => ild8 _ _ _ h | .ild8d .., h => ild8d _ _ _ _ h
  | .ild8r .., h => ild8r _ _ _ _ h | .ileq .., h => ileq _ _ _ _ h | .ileqi .., h => ileqi _ _ _ _ h
  | .iles .., h => iles _ _ _ _ h | .ilesi .., h => ilesi _ _ _ _ h | .imax .., h => imax _ _ _ _ h
  | .imin .., h => imin _ _ _ _ h | .imul .., h => imul _ _ _ _ h | .imulm .., h => imulm _ _ _ _ h
  | .ineg .., h => ineg _ _ _ h | .ineq .., h => ineq _ _ _ _ h | .ineqi .., h => ineqi _ _ _ _ h
  | .inonzero .., h => inonzero _ _ _ _ h | .isub .., h => isub _ _ _ _ h | .isubi .., h => isubi _ _ _ _ h
  | .izero .., h => izero _ _ _ _ h | .jmpf .., h => jmpf _ _ _ h | .jmpi .., h => jmpi _ _ h
  | .jmpt .., h => jmpt _ _ _ h | .ld32 .., h => ld32 _ _ _ h | .ld32d .., h => ld32d _ _ _ _ h
  | .ld32r .., h => ld32r _ _ _ _ h | .ld32x .., h => ld32x _ _ _ _ h | .lsl .., h => lsl _ _ _ _ h
  | .lsli .., h => lsli _ _ _ _ h | .lsr .., h => lsr _ _ _ _ h | .lsri .., h => lsri _ _ _ _ h
  | .mergedual16lsb .., h => mergedual16lsb _ _ _ _ h | .mergelsb .., h => mergelsb _ _ _ _ h
  | .mergemsb .., h => mergemsb _ _ _ _ h | .nop .., h => nop h | .pack16lsb .., h => pack16lsb _ _ _ _ h
  | .pack16msb .., h => pack16msb _ _ _ _ h | .packbytes .., h => packbytes _ _ _ _ h | .pref .., h => pref _ _ h
  | .pref16x .., h => pref16x _ _ _ h | .pref32x .., h => pref32x _ _ _ h | .prefd .., h => prefd _ _ _ h
  | .prefr .., h => prefr _ _ _ h | .quadavg .., h => quadavg _ _ _ _ h | .quadumax .., h => quadumax _ _ _ _ h
  | .quadumin .., h => quadumin _ _ _ _ h | .quadumulmsb .., h => quadumulmsb _ _ _ _ h
  | .rdstatus .., h => rdstatus _ _ _ _ h | .rdtag .., h => rdtag _ _ _ _ h | .readdpc .., h => readdpc _ _ h
  | .readpcsw .., h => readpcsw _ _ h | .readspc .., h => readspc _ _ h | .rol .., h => rol _ _ _ _ h
  | .roli .., h => roli _ _ _ _ h | .sex16 .., h => sex16 _ _ _ h | .sex8 .., h => sex8 _ _ _ h
  | .st16 .., h => st16 _ _ _ h | .st16d .., h => st16d _ _ _ _ h | .st32 .., h => st32 _ _ _ h
  | .st32d .., h => st32d _ _ _ _ h | .st8 .., h => st8 _ _ _ h | .st8d .., h => st8d _ _ _ _ h
  | .ubytesel .., h => ubytesel _ _ _ _ h | .uclipi .., h => uclipi _ _ _ _ h | .uclipu .., h => uclipu _ _ _ _ h
  | .ueql .., h => ueql _ _ _ _ h | .ueqli .., h => ueqli _ _ _ _ h | .ufir16 .., h => ufir16 _ _ _ _ h
  | .ufir8uu .., h => ufir8uu _ _ _ _ h | .ufixieee .., h => ufixieee _ _ _ h
  | .ufixieeeflags .., h => ufixieeeflags _ _ _ h | .ufixrz .., h => ufixrz _ _ _ h
  | .ufixrzflags .., h => ufixrzflags _ _ _ h | .ufloat .., h => ufloat _ _ _ h
  | .ufloatflags .., h => ufloatflags _ _ _ h | .ufloatrz .., h => ufloatrz _ _ _ h
  | .ufloatrzflags .., h => ufloatrzflags _ _ _ h | .ugeq .., h => ugeq _ _ _ _ h | .ugeqi .., h => ugeqi _ _ _ _ h
  | .ugtr .., h => ugtr _ _ _ _ h | .ugtri .., h => ugtri _ _ _ _ h | .uimm .., h => uimm _ _ h
  | .uld16 .., h => uld16 _ _ _ h | .uld16d .., h => uld16d _ _ _ _ h | .uld16r .., h => uld16r _ _ _ _ h
  | .uld16x .., h => uld16x _ _ _ _ h | .uld8 .., h => uld8 _ _ _ h | .uld8d .., h => uld8d _ _ _ _ h
  | .uld8r .., h => uld8r _ _ _ _ h | .uleq .., h => uleq _ _ _ _ h | .uleqi .., h => uleqi _ _ _ _ h
  | .ules .., h => ules _ _ _ _ h | .ulesi .., h => ulesi _ _ _ _ h | .ume8ii .., h => ume8ii _ _ _ _ h
  | .ume8uu .., h => ume8uu _ _ _ _ h | .umin .., h => umin _ _ _ _ h | .umul .., h => umul _ _ _ _ h
  | .umulm .., h => umulm _ _ _ _ h | .uneq .., h => uneq _ _ _ _ h | .uneqi .., h => uneqi _ _ _ _ h
  | .writedpc .., h => writedpc _ _ h | .writepcsw .., h => writepcsw _ _ _ h | .writespc .., h => writespc _ _ h
  | .zex16 .., h => zex16 _ _ _ h | .zex8 .., h => zex8 _ _ _ h

end Sys2Proof.Laws.RoundTrip

namespace Sys2Proof

/-! ### From the operation to its record and back -/

theorem decodeOp_encodeOp {i : Instr} (h : i.modifierOk = true) : decodeOp (encodeOp i) = .ok i :=
  Laws.RoundTrip.every i h

theorem opOfBytes_opBytes (w : OpWord) : opOfBytes (w.extractLsb' 0 8) (w.extractLsb' 8 8) (w.extractLsb' 16 8)
    (w.extractLsb' 24 8) (w.extractLsb' 32 8) (w.extractLsb' 40 8) = w := by
  unfold opOfBytes
  simp (disch := decide) only [BitVec.extractLsb'_append_extractLsb'_eq_extractLsb']
  exact extract_zero w

theorem length_of_bytes (l : BitVec 16) : l.extractLsb' 8 8 ++ l.extractLsb' 0 8 = l := by
  rw [BitVec.extractLsb'_append_extractLsb'_eq_extractLsb' (by decide)]
  exact extract_zero l

theorem modifierOk_of_wellFormed {b : Bundle} (h : b.wellFormed = true) {p : Nat × Instr} (hp : p ∈ b.ops) :
    p.2.modifierOk = true := by
  simp only [Bundle.wellFormed, Bundle.opsOk, Bool.and_eq_true, List.all_eq_true] at h
  obtain ⟨⟨hops, -⟩, -⟩ := h
  have hwf := hops p hp
  simp only [Instr.wellFormed, Bool.and_eq_true] at hwf
  obtain ⟨⟨hmod, -⟩, -⟩ := hwf
  exact hmod

/-- The image of an instruction decodes to it as soon as each of its five records does: the bytes of each record are
put together again, and so are those of the length. -/
theorem decode_encode {b : Bundle} (rest : List Byte) (hlen : b.length ≠ 0)
    (hops : ∀ p ∈ b.ops, decodeOp (encodeOp p.2) = .ok p.2) : decode (encode b ++ rest) = .ok (b, rest) := by
  simp only [Bundle.ops, List.forall_mem_cons] at hops
  obtain ⟨h1, h2, h3, h4, h5, -⟩ := hops
  simp only [encode, opBytes, List.cons_append, List.nil_append, decode, length_of_bytes, opOfBytes_opBytes, if_neg hlen,
    h1, h2, h3, h4, h5]

/-- Settles O1: the modifiers of a well-formed instruction are legal, so each of its records decodes. -/
theorem instructionDecodesAsEncoded : Obligations.InstructionDecodesAsEncoded := fun _ rest hwf hlen =>
  decode_encode rest hlen fun _ hp => decodeOp_encodeOp (modifierOk_of_wellFormed hwf hp)

/-! ### Unassigned codes -/

/-- The codes below 216 that no operation has (R192, R185). -/
def unassignedCodes : List Nat :=
  [59, 60, 61, 62, 63, 79, 84, 85, 86, 87, 88, 104, 105, 106, 107, 131, 132, 133, 134, 135, 136, 137, 163, 164, 165, 166,
   167, 168, 169, 170, 171, 172, 173, 174, 175, 182, 183, 185, 186, 187, 188, 189, 190, 204, 207, 208]

/-- None of the decoders of the four kinds of name knows a code that is unassigned. -/
theorem decoders_refuse_unassigned (w : OpWord) (f : Fields) {c : Nat} (hlt : c < 256)
    (h : c ∈ unassignedCodes ∨ 215 < c) :
    decodeReal w f c = .error (.unassignedCode w.code) ∧ decodePseudo w f c = .error (.unassignedCode w.code)
    ∧ decodePseudo2 w f c = .error (.unassignedCode w.code) ∧ decodeEmpty w c = .error (.unassignedCode w.code) := by
  rcases h with h | h
  · fin_cases h <;> exact ⟨rfl, rfl, rfl, rfl⟩
  · interval_cases c <;> exact ⟨rfl, rfl, rfl, rfl⟩

theorem decodeNamed_unassigned (w : OpWord) (f : Fields) {c : Nat} (hlt : c < 256)
    (h : c ∈ unassignedCodes ∨ 215 < c) (n : Nat) : decodeNamed w f c n = .error (.unassignedCode w.code) := by
  obtain ⟨hreal, hpseudo, hpseudo2, hempty⟩ := decoders_refuse_unassigned w f hlt h
  unfold decodeNamed
  split
  · exact hreal
  · exact hpseudo
  · exact hpseudo2
  · exact hempty
  · rfl

/-- Settles O3: the records by running the decoder on them, the refused codes by `decodeNamed_unassigned`. -/
theorem operationCodesAreTheTables : Obligations.OperationCodesAreTheTables :=
  ⟨rfl, rfl, rfl, rfl, rfl, rfl, rfl, rfl, rfl, rfl, rfl, rfl, rfl, rfl, rfl, rfl, rfl, fun w h =>
    decodeNamed_unassigned w w.fields w.code.isLt h w.name⟩

/-! ### From the record to its operation and back -/

theorem packFields_self (w : OpWord) : packFields w.code (w.extractLsb' 43 5) w.fields = w := by
  unfold packFields OpWord.code OpWord.fields
  simp (disch := decide) only [BitVec.extractLsb'_append_extractLsb'_eq_extractLsb']
  exact extract_zero w

theorem packImm_self (w : OpWord) : packImm w.code (w.extractLsb' 47 1) w.immReg w.imm = w := by
  unfold packImm OpWord.code OpWord.immReg OpWord.imm
  simp (disch := decide) only [BitVec.extractLsb'_append_extractLsb'_eq_extractLsb']
  exact extract_zero w

@[simp] theorem modField_signedField (m : BitVec 7) {k : Int} (hk : 0 < k) : modField (signedField m k) k = m := by
  unfold modField signedField
  rw [Int.mul_ediv_cancel_left _ hk.ne', BitVec.ofInt_toInt]

@[simp] theorem modField_unsignedField (m : BitVec 7) : modField (unsignedField m) 1 = m := by
  simp [modField, unsignedField]

/-- Where the decoder's answer `r` is an operation, the record of that operation is `w`. -/
def Respells (r : Except DecodeError Instr) (w : OpWord) : Prop := ∀ i, r = .ok i → encodeOp i = w

theorem respells_ok {i : Instr} {w : OpWord} (h : encodeOp i = w) : Respells (.ok i) w := fun _ hr =>
  Except.ok.inj hr ▸ h

theorem respells_error {e : DecodeError} {w : OpWord} : Respells (.error e) w := nofun

/-- An operation whose record has the fields `f'` is respelled with the fields `f` where these agree with `f'`, given
that the fields it does not have are zero. -/
theorem needZero_respells {w : OpWord} {b : Bool} {i : Instr} {c : BitVec 8} {n : BitVec 5} {f f' : Fields}
    (he : encodeOp i = packFields c n f') (hf : b = true → f = f') : Respells (needZero w b i) (packFields c n f) := by
  cases b with
  | false => exact respells_error
  | true => exact respells_ok (he.trans (congrArg _ (hf rfl).symm))

/-- The codes of real operations without a 32-bit modifier. -/
def fieldCodes : List Nat := (List.range 216).filter fun c => !unassignedCodes.contains c && !hasImm (.ofNat 8 c)

/-- Code by code: a real operation has its fields in the record, and the fields that it does not have are zero. -/
theorem decodeReal_respells (w : OpWord) (f : Fields) {c : Nat} (hc : c ∈ fieldCodes) :
    Respells (decodeReal w f c) (packFields (.ofNat 8 c) 0 f) := by
  obtain ⟨g, s1, s2, d, m⟩ := f
  fin_cases hc
  all_goals exact needZero_respells rfl fun hz => by simpa [and_assoc] using hz

theorem decodePseudo_respells (w : OpWord) (f : Fields) {c : Nat} (hi : hasImm (.ofNat 8 c) = false) :
    Respells (decodePseudo w f c) (packFields (.ofNat 8 c) 1 f) := by
  obtain ⟨g, s1, s2, d, m⟩ := f
  unfold decodePseudo
  split
  case h_28 => nomatch hi -- code 191, whose second name is uimm
  case h_33 => exact respells_error
  all_goals exact needZero_respells rfl fun hz => by simpa [and_assoc] using hz

theorem decodePseudo2_respells (w : OpWord) (f : Fields) (c : Nat) :
    Respells (decodePseudo2 w f c) (packFields (.ofNat 8 c) 2 f) := by
  obtain ⟨g, s1, s2, d, m⟩ := f
  unfold decodePseudo2
  split
  case h_5 => exact respells_error
  all_goals exact needZero_respells rfl fun hz => by simpa [and_assoc] using hz

theorem decodeEmpty_respells (w : OpWord) (c : Nat) :
    Respells (decodeEmpty w c) (packFields (.ofNat 8 c) 31 w.fields) := by
  unfold decodeEmpty
  split
  · exact needZero_respells rfl of_decide_eq_true
  · exact respells_error

theorem decodeNamed_respells_fields (w : OpWord) {c : Nat} (hlt : c < 256) (hi : hasImm (.ofNat 8 c) = false) (n : Nat) :
    Respells (decodeNamed w w.fields c n) (packFields (.ofNat 8 c) (.ofNat 5 n) w.fields) := by
  by_cases hu : c ∈ unassignedCodes ∨ 215 < c
  · rw [decodeNamed_unassigned w w.fields hlt hu n]
    exact respells_error
  · have hc : c ∈ fieldCodes := by
      obtain ⟨hassigned, hle⟩ := not_or.1 hu
      exact List.mem_filter.2 ⟨List.mem_range.2 (by omega), by simp [hassigned, hi]⟩
    unfold decodeNamed
    split
    · exact decodeReal_respells w w.fields hc
    · exact decodePseudo_respells w w.fields hi
    · exact decodePseudo2_respells w w.fields c
    · exact decodeEmpty_respells w c
    · exact respells_error

/-- The operations with a 32-bit modifier: jmpi, ijmpi and iimm, and uimm as the second name of the last code. -/
theorem decodeNamed_respells_imm (w : OpWord) (f : Fields) {c : BitVec 8} (hi : hasImm c = true) (n : BitVec 1) :
    Respells (decodeNamed w f c.toNat n.toNat) (packImm c n w.immReg w.imm) := by
  simp only [hasImm, Bool.or_eq_true, beq_iff_eq] at hi
  rcases BitVec.eq_zero_or_eq_one n with rfl | rfl <;> rcases hi with (rfl | rfl) | rfl
  · exact respells_ok rfl
  · exact respells_ok rfl
  · exact respells_ok (congrArg (packImm 191 0 w.immReg) BitVec.ofInt_toInt)
  · exact respells_error
  · exact respells_error
  · exact respells_ok (congrArg (packImm 191 1 w.immReg) (by simp))

/-- The code, the name and the fields of a record are all its bits, and the operation it decodes to has them. -/
theorem decodeOp_respells (w : OpWord) : Respells (decodeOp w) w := by
  unfold decodeOp OpWord.name
  split
  case isTrue hi => simpa only [packImm_self] using decodeNamed_respells_imm w w.fields hi (w.extractLsb' 47 1)
  case isFalse hi =>
    simpa only [BitVec.ofNat_toNat, BitVec.setWidth_eq, packFields_self] using
      decodeNamed_respells_fields w w.code.isLt (by simpa using hi) (w.extractLsb' 43 5).toNat

/-- Settles O2: where decoding answers an operation, `decodeOp_respells` gives its record. -/
theorem recordHasOneSpelling : Obligations.RecordHasOneSpelling := decodeOp_respells

end Sys2Proof
end


section
/-! SUPPORT. Shifts and rotates in arithmetic (spec/41_shift_logical.md): a shift by a register is a shift by its whole
value, shifts are products and floor quotients by powers of two, and rotates and funnel shifts are 32 bits of the 64 of
two words side by side. -/
namespace Sys2Proof.Machine

/-- An operation that is `issueValue` delivers its value, in whatever equal form the value is written. -/
theorem delivers_issueValue {i : Instr} {u : FuncUnit} {g d : Reg} {lat : Nat} {s : State} {v w : Word}
    (h : exec i s = issueValue u g d v s) (hlat : u.latency = lat) (hv : v = w) : Delivers i g d lat s w := by
  subst hlat hv
  exact h.trans (issueValue_eq u g d v s)

/-! ### Amounts (R281) -/

theorem shiftAmount_eq_min (w : Word) : shiftAmount w = min w.toNat 32 := by
  have hlow : (w.extractLsb' 0 5).toNat = w.toNat % 32 := by simp [BitVec.extractLsb'_toNat]
  have hhigh : w.extractLsb' 5 27 = 0 ↔ w.toNat < 32 := by
    rw [← BitVec.toNat_inj, BitVec.extractLsb'_toNat, Nat.shiftRight_eq_div_pow]
    simp only [BitVec.ofNat_eq_ofNat, BitVec.toNat_ofNat]
    omega
  simp only [shiftAmount, hlow, hhigh]
  split <;> omega

theorem rotateAmount_eq_mod (w : Word) : rotateAmount w = w.toNat % 32 := by
  simp [rotateAmount, BitVec.extractLsb'_toNat]

/-- Taking all amounts above 32 as 32 makes no difference to a shift that is the same for all of them. -/
theorem apply_shiftAmount {f : Nat → Word} (hf : ∀ n, 32 ≤ n → f n = f 32) (w : Word) :
    f (shiftAmount w) = f w.toNat := by
  rw [shiftAmount_eq_min]
  rcases Nat.le_total w.toNat 32 with h | h
  · rw [Nat.min_eq_left h]
  · rw [Nat.min_eq_right h, hf _ h]

/-! ### Shifts (R283 to R286, R290 to R293) -/

theorem shiftLeft_eq_ofNat (x : Word) (n : Nat) : x <<< n = BitVec.ofNat 32 (x.toNat * 2 ^ n) := by
  rw [← BitVec.toNat_inj, BitVec.toNat_shiftLeft, BitVec.toNat_ofNat, Nat.shiftLeft_eq]

theorem ushiftRight_eq_ofNat (x : Word) (n : Nat) : x >>> n = BitVec.ofNat 32 (x.toNat / 2 ^ n) := by
  rw [← Nat.shiftRight_eq_div_pow, ← BitVec.toNat_ushiftRight, BitVec.ofNat_toNat, BitVec.setWidth_eq]

theorem sshiftRight_eq_ofInt (x : Word) (n : Nat) : x.sshiftRight n = BitVec.ofInt 32 (x.toInt / 2 ^ n) := by
  rw [BitVec.sshiftRight, Int.shiftRight_eq_div_pow, Nat.cast_pow, Nat.cast_ofNat]

theorem shiftLeft_shiftAmount (x w : Word) : x <<< shiftAmount w = BitVec.ofNat 32 (x.toNat * 2 ^ w.toNat) := by
  rw [← shiftLeft_eq_ofNat]
  exact apply_shiftAmount (f := (x <<< ·)) (fun _ h =>
    (BitVec.shiftLeft_eq_zero h).trans (BitVec.shiftLeft_eq_zero le_rfl).symm) w

theorem ushiftRight_shiftAmount (x w : Word) : x >>> shiftAmount w = BitVec.ofNat 32 (x.toNat / 2 ^ w.toNat) := by
  rw [← ushiftRight_eq_ofNat]
  exact apply_shiftAmount (f := (x >>> ·)) (fun _ h =>
    (BitVec.ushiftRight_eq_zero h).trans (BitVec.ushiftRight_eq_zero le_rfl).symm) w

/-- An arithmetic shift by 32 or more leaves copies of the sign bit alone. -/
theorem sshiftRight_of_ge (x : Word) {n : Nat} (h : 32 ≤ n) : x.sshiftRight n = x.sshiftRight 32 := by
  ext j hj
  rw [BitVec.getElem_sshiftRight, BitVec.getElem_sshiftRight, dif_neg (by omega), dif_neg (by omega)]

theorem sshiftRight_shiftAmount (x w : Word) :
    x.sshiftRight (shiftAmount w) = BitVec.ofInt 32 (x.toInt / 2 ^ w.toNat) := by
  rw [← sshiftRight_eq_ofInt]
  exact apply_shiftAmount (f := x.sshiftRight) (fun _ h => sshiftRight_of_ge x h) w

/-! ### Rotates and funnel shifts (R287 to R289, R294, R295) -/

/-- A rotation to the left is the upper word of two copies side by side, shifted to the left. -/
theorem rotateLeft_eq_extract (x : Word) (n : Nat) :
    x.rotateLeft n = ((x ++ x) <<< (n % 32)).extractLsb' 32 32 := by
  have hn : n % 32 < 32 := Nat.mod_lt _ (by decide)
  ext j hj
  have hshifted : ¬ 32 + j < n % 32 := by omega
  rw [BitVec.getElem_rotateLeft, BitVec.getElem_extractLsb', BitVec.getLsbD_shiftLeft, decide_eq_true (by omega),
    decide_eq_false hshifted, BitVec.getLsbD_append]
  by_cases h : j < n % 32
  · rw [dif_pos h, if_pos (by omega), ← BitVec.getLsbD_eq_getElem, show 32 - n % 32 + j = 32 + j - n % 32 by omega]
    rfl
  · rw [dif_neg h, if_neg (by omega), ← BitVec.getLsbD_eq_getElem, show 32 + j - n % 32 - 32 = j - n % 32 by omega]
    rfl

theorem rotateLeft_rotateAmount (x w : Word) :
    x.rotateLeft (rotateAmount w) = ((x ++ x) <<< (w.toNat % 32)).extractLsb' 32 32 := by
  rw [rotateLeft_eq_extract, rotateAmount_eq_mod, Nat.mod_mod]

/-- The 32 bits from bit `k` of two words side by side: the low `k` bits of the first, then the rest of the second. -/
theorem append_extract_across (x y : Word) {k l : Nat} (h : k + l = 32) :
    (x.extractLsb' 0 k ++ y.extractLsb' k l).cast h = (x ++ y).extractLsb' k 32 := by
  ext j hj
  rw [BitVec.getElem_cast, BitVec.getElem_append, BitVec.getElem_extractLsb', BitVec.getLsbD_append]
  by_cases hlow : j < l
  · rw [dif_pos hlow, if_pos (by omega), BitVec.getElem_extractLsb']
  · rw [dif_neg hlow, if_neg (by omega), BitVec.getElem_extractLsb', show k + j - 32 = 0 + (j - l) by omega]

theorem getLsbD_inv (x : Word) {j : Nat} (hj : j < 32) : (~~~x).getLsbD j = !x.getLsbD j := by
  rw [BitVec.getLsbD_not, decide_eq_true hj, Bool.true_and]

/-- Settles O51: every operation here is `issueValue` of a unit with latency 1, and the lemmas above rewrite its value. -/
theorem shiftsRotatesLogic : Obligations.ShiftsRotatesLogic := by
  intro g s1 s2 d m s a b _
  have shifter {i v w} (h : exec i s = issueValue .shifter g d v s) := delivers_issueValue (w := w) h rfl
  have alu {i v} (h : exec i s = issueValue .alu g d v s) := delivers_issueValue h rfl rfl
  refine ⟨?asl, ?lsl, ?asr, ?lsr, ?asli, ?lsli, ?asri, ?lsri, ?rol, ?roli, ?funshift1, ?funshift2, ?funshift3, ?bitand,
    ?bitandinv, ?bitor, ?bitxor, ?bitinv⟩
  case asl | lsl => exact shifter rfl (shiftLeft_shiftAmount a b)
  case asr => exact shifter rfl (sshiftRight_shiftAmount a b)
  case lsr => exact shifter rfl (ushiftRight_shiftAmount a b)
  case asli | lsli => exact shifter rfl (shiftLeft_eq_ofNat a m.toNat)
  case asri => exact shifter rfl (sshiftRight_eq_ofInt a m.toNat)
  case lsri => exact shifter rfl (ushiftRight_eq_ofNat a m.toNat)
  case rol => exact shifter rfl (rotateLeft_rotateAmount a b)
  case roli => exact shifter rfl (rotateLeft_eq_extract a m.toNat)
  case funshift1 | funshift2 | funshift3 => exact shifter rfl (append_extract_across a b rfl)
  case bitand => exact ⟨_, alu rfl, fun _ _ => BitVec.getLsbD_and⟩
  case bitandinv => exact ⟨_, alu rfl, fun _ hj => BitVec.getLsbD_and.trans (congrArg _ (getLsbD_inv b hj))⟩
  case bitor => exact ⟨_, alu rfl, fun _ _ => BitVec.getLsbD_or⟩
  case bitxor => exact ⟨_, alu rfl, fun _ _ => BitVec.getLsbD_xor⟩
  case bitinv => exact ⟨_, alu rfl, fun _ hj => getLsbD_inv a hj⟩

end Sys2Proof.Machine
end

section
/-! SUPPORT. Clipping in closed form, and the 32-bit DSP operations (spec/42_dsp.md R311 to R347): each value of the model
is one `BitVec.ofInt` or `BitVec.ofNat` of exact arithmetic with a minimum and a maximum. -/
namespace Sys2Proof.Machine

/-! ### Clipping (R311, R312) -/

theorem clip_eq_max_min {lo hi : Int} (h : lo ≤ hi) (x : Int) : clip lo hi x = max lo (min hi x) := by
  unfold clip
  split_ifs <;> omega

theorem clip32_eq (x : Int) : clip32 x = BitVec.ofInt 32 (max (-2 ^ 31) (min (2 ^ 31 - 1) x)) :=
  congrArg (BitVec.ofInt 32) (clip_eq_max_min (by decide) x)

theorem clip16_eq (x : Int) : clip16 x = BitVec.ofInt 16 (max (-2 ^ 15) (min (2 ^ 15 - 1) x)) :=
  congrArg (BitVec.ofInt 16) (clip_eq_max_min (by decide) x)

/-- The lower bound does not matter for an absolute value. -/
theorem clip32_natAbs (x : Int) : clip32 x.natAbs = BitVec.ofInt 32 (min (2 ^ 31 - 1) x.natAbs) := by
  rw [clip32_eq, max_eq_right (by omega)]

theorem clipU32_eq (x : Int) : clipU32 x = BitVec.ofNat 32 (min (2 ^ 32 - 1) x.toNat) := by
  rw [clipU32, clip_eq_max_min (by decide), wrap32, ← BitVec.ofInt_natCast]
  congr 1
  omega

theorem clipU32_natCast (n : Nat) : clipU32 n = BitVec.ofNat 32 (min (2 ^ 32 - 1) n) := by
  rw [clipU32_eq, Int.toNat_natCast]

/-- A difference of naturals is clipped at 0 already. -/
theorem clipU32_sub (x y : Word) : clipU32 (uval x - uval y) = BitVec.ofNat 32 (x.toNat - y.toNat) := by
  have hx := x.isLt
  rw [clipU32_eq, uval, uval, Int.toNat_sub, Nat.min_eq_right (by omega)]

/-- The clips to a bound `b` from a register: the lower limit is applied first, so `b` wins where it lies below `lo`. -/
theorem min_max_swap (lo b x : Int) : min (max x lo) b = min b (max lo x) := by
  rw [min_comm, max_comm]

theorem wrap32_min_max_zero (x : Int) (n : Nat) : wrap32 (min (max x 0) n) = BitVec.ofNat 32 (min n x.toNat) := by
  rw [wrap32, ← BitVec.ofInt_natCast]
  congr 1
  omega

/-! ### Minima, maxima and conditional negation (R334 to R336, R342, R347) -/

theorem select_min_unsigned (x y : Word) : (if y < x then y else x) = BitVec.ofNat 32 (min x.toNat y.toNat) := by
  rw [← BitVec.toNat_inj, BitVec.toNat_ofNat, Nat.mod_eq_of_lt (lt_of_le_of_lt (min_le_left _ _) x.isLt)]
  split_ifs with h <;> rw [BitVec.lt_def] at h <;> omega

theorem select_max_signed (x y : Word) :
    (if y.toInt < x.toInt then x else y) = BitVec.ofInt 32 (max x.toInt y.toInt) := by
  split_ifs with h
  · rw [max_eq_left h.le, BitVec.ofInt_toInt]
  · rw [max_eq_right (not_lt.1 h), BitVec.ofInt_toInt]

theorem select_min_signed (x y : Word) :
    (if y.toInt < x.toInt then y else x) = BitVec.ofInt 32 (min x.toInt y.toInt) := by
  split_ifs with h
  · rw [min_eq_right h.le, BitVec.ofInt_toInt]
  · rw [min_eq_left (not_lt.1 h), BitVec.ofInt_toInt]

theorem flip_eq (x y : Word) :
    (if x = 0 then y else -y) = if x.toNat = 0 then y else BitVec.ofInt 32 (-y.toInt) := by
  rw [BitVec.ofInt_neg, BitVec.ofInt_toInt]
  exact if_congr BitVec.toNat_inj.symm rfl rfl

/-- Settles O52: every operation here is `issueValue` of its unit, and the lemmas above rewrite its value. -/
theorem clippedWordArithmetic : Obligations.ClippedWordArithmetic := by
  intro g s1 s2 d s a b _
  have dspalu {i v w} (h : exec i s = issueValue .dspalu g d v s) := delivers_issueValue (w := w) h rfl
  have ifmul {i v w} (h : exec i s = issueValue .ifmul g d v s) := delivers_issueValue (w := w) h rfl
  refine ⟨?dspiadd, ?dspisub, ?dspimul, ?dspiabs, ?hDspiabs, ?dspuadd, ?dspusub, ?dspumul, ?iclipi, ?uclipi, ?uclipu,
    ?umin, ?imax, ?imin, ?iflip⟩
  case dspiadd => exact dspalu rfl (clip32_eq (a.toInt + b.toInt))
  case dspisub => exact dspalu rfl (clip32_eq (a.toInt - b.toInt))
  case dspimul => exact ifmul rfl (clip32_eq (a.toInt * b.toInt))
  case dspiabs => exact dspalu rfl (clip32_natAbs a.toInt)
  case hDspiabs => exact dspalu rfl (clip32_natAbs b.toInt)
  case dspuadd => exact dspalu rfl (clipU32_natCast (a.toNat + b.toNat))
  case dspusub => exact dspalu rfl (clipU32_sub a b)
  case dspumul => exact ifmul rfl (clipU32_natCast (a.toNat * b.toNat))
  case iclipi => exact dspalu rfl (congrArg wrap32 (min_max_swap (-uval b - 1) (uval b) a.toInt))
  case uclipi => exact dspalu rfl (wrap32_min_max_zero a.toInt b.toNat)
  case uclipu | umin => exact dspalu rfl (select_min_unsigned a b)
  case imax => exact dspalu rfl (select_max_signed a b)
  case imin => exact dspalu rfl (select_min_signed a b)
  case iflip => exact dspalu rfl (flip_eq a b)

end Sys2Proof.Machine
end

section
/-! SUPPORT. Packed arithmetic (spec/42_dsp.md R315 to R318, R323, R325 to R329, R337 to R340): `mapHalves` and `mapBytes`
act on each place alone, so an operation on packed fields is its function of one pair of fields. -/
namespace Sys2Proof.Machine

/-! ### Places -/

theorem halfAt_ofHalves (hi lo : BitVec 16) : halfAt (ofHalves hi lo) 0 = lo ∧ halfAt (ofHalves hi lo) 1 = hi :=
  ⟨BitVec.extractLsb'_append_eq_right, BitVec.extractLsb'_append_eq_left⟩

/-- Each halfword of the result comes from the same place of the operands. -/
theorem halfAt_mapHalves (f : BitVec 16 → BitVec 16 → BitVec 16) (x y : Word) {k : Nat} (hk : k < 2) :
    halfAt (mapHalves f x y) k = f (halfAt x k) (halfAt y k) := by
  obtain ⟨hlow, hhigh⟩ := halfAt_ofHalves (f (halfAt x 1) (halfAt y 1)) (f (halfAt x 0) (halfAt y 0))
  match k, hk with
  | 0, _ => exact hlow
  | 1, _ => exact hhigh

/-- Each byte of the result comes from the same place of the operands. -/
theorem byteAt_mapBytes (f : Byte → Byte → Byte) (x y : Word) {k : Nat} (hk : k < 4) :
    byteAt (mapBytes f x y) k = f (byteAt x k) (byteAt y k) := by
  obtain ⟨h0, h1, h2, h3⟩ := byteAt_ofBytes (f (byteAt x 3) (byteAt y 3)) (f (byteAt x 2) (byteAt y 2))
    (f (byteAt x 1) (byteAt y 1)) (f (byteAt x 0) (byteAt y 0))
  match k, hk with
  | 0, _ => exact h0
  | 1, _ => exact h1
  | 2, _ => exact h2
  | 3, _ => exact h3

/-- An operation on both halfwords delivers at each place its function of the operands there. -/
theorem delivers_mapHalves {i : Instr} {u : FuncUnit} {g d : Reg} {lat : Nat} {s : State} {x y : Word}
    {f : BitVec 16 → BitVec 16 → BitVec 16} {r : Nat → BitVec 16}
    (h : exec i s = issueValue u g d (mapHalves f x y) s) (hlat : u.latency = lat)
    (hf : ∀ k, f (halfAt x k) (halfAt y k) = r k) :
    ∃ v, Delivers i g d lat s v ∧ ∀ k < 2, halfAt v k = r k :=
  ⟨_, delivers_issueValue h hlat rfl, fun k hk => (halfAt_mapHalves f x y hk).trans (hf k)⟩

/-- An operation on all four bytes delivers at each place its function of the operands there. -/
theorem delivers_mapBytes {i : Instr} {u : FuncUnit} {g d : Reg} {lat : Nat} {s : State} {x y : Word}
    {f : Byte → Byte → Byte} {r : Nat → Nat}
    (h : exec i s = issueValue u g d (mapBytes f x y) s) (hlat : u.latency = lat)
    (hf : ∀ k, (f (byteAt x k) (byteAt y k)).toNat = r k) :
    ∃ v, Delivers i g d lat s v ∧ ∀ k < 4, (byteAt v k).toNat = r k :=
  ⟨_, delivers_issueValue h hlat rfl, fun k hk => (congrArg BitVec.toNat (byteAt_mapBytes f x y hk)).trans (hf k)⟩

/-! ### Halfwords -/

theorem halfShiftAmount_eq_min (w : Word) : halfShiftAmount w = min w.toNat 16 := by
  have hlow : (w.extractLsb' 0 4).toNat = w.toNat % 16 := by simp [BitVec.extractLsb'_toNat]
  have hhigh : w.extractLsb' 4 28 = 0 ↔ w.toNat < 16 := by
    rw [← BitVec.toNat_inj, BitVec.extractLsb'_toNat, Nat.shiftRight_eq_div_pow]
    simp only [BitVec.ofNat_eq_ofNat, BitVec.toNat_ofNat]
    omega
  simp only [halfShiftAmount, hlow, hhigh]
  split <;> omega

/-- An arithmetic shift of a halfword by a register is a floor division by a power of two, for every amount: by 16 and
more only copies of the sign bit are left (R325). -/
theorem sshiftRight_halfShiftAmount (x : BitVec 16) (w : Word) :
    x.sshiftRight (halfShiftAmount w) = BitVec.ofInt 16 (x.toInt / 2 ^ w.toNat) := by
  have hall : x.sshiftRight (min w.toNat 16) = x.sshiftRight w.toNat := by
    rcases Nat.le_total w.toNat 16 with h | h
    · rw [Nat.min_eq_left h]
    · ext j hj
      rw [Nat.min_eq_right h, BitVec.getElem_sshiftRight, BitVec.getElem_sshiftRight, dif_neg (by omega),
        dif_neg (by omega)]
  rw [halfShiftAmount_eq_min, hall, BitVec.sshiftRight, Int.shiftRight_eq_div_pow, Nat.cast_pow, Nat.cast_ofNat]

/-! ### Bytes -/

theorem toNat_wrap8 {x : Int} (h0 : 0 ≤ x) (h : x < 256) : ((wrap8 x).toNat : Int) = x := by
  rw [wrap8, BitVec.toNat_ofInt]
  omega

theorem toNat_clipU8 (x : Int) : ((clipU8 x).toNat : Int) = max 0 (min 255 x) := by
  rw [clipU8, clip_eq_max_min (by decide), toNat_wrap8 (by omega) (by omega)]

theorem toNat_average (x y : Byte) : (wrap8 ((uval x + uval y + 1) / 2)).toNat = (x.toNat + y.toNat + 1) / 2 := by
  have hx := x.isLt
  have hy := y.isLt
  zify
  exact toNat_wrap8 (by unfold uval; omega) (by unfold uval; omega)

theorem toNat_mulHigh (x y : Byte) : (wrap8 (uval x * uval y / 256)).toNat = x.toNat * y.toNat / 2 ^ 8 := by
  have hxy : x.toNat * y.toNat < 256 * 256 := Nat.mul_lt_mul'' x.isLt y.isLt
  have hcast : uval x * uval y / 256 = ((x.toNat * y.toNat / 256 : Nat) : Int) := by simp [uval]
  zify
  rw [hcast, toNat_wrap8 (by omega) (by omega)]
  simp

theorem toNat_select_max (x y : Byte) : (if y < x then x else y).toNat = max x.toNat y.toNat := by
  split_ifs with h <;> rw [BitVec.lt_def] at h <;> omega

theorem toNat_select_min (x y : Byte) : (if x < y then x else y).toNat = min x.toNat y.toNat := by
  split_ifs with h <;> rw [BitVec.lt_def] at h <;> omega

/-- Settles O53: each operation puts its value together place by place, and the lemmas above say what it does at one. -/
theorem dualAndQuadArithmetic : Obligations.DualAndQuadArithmetic := by
  intro g s1 s2 d s a _ _ _ bound _
  refine ⟨?add, ?sub, ?mul, ?abs, ?hAbs, ?asr, ?iclip, ?uclip, ?avg, ?umax, ?umin, ?mulmsb, ?addui⟩
  case add | sub | mul | abs | hAbs => exact delivers_mapHalves rfl rfl fun _ => clip16_eq _
  case asr => exact delivers_mapHalves rfl rfl fun k => sshiftRight_halfShiftAmount (halfAt (s.reg s1) k) (s.reg s2)
  case iclip => exact delivers_mapHalves rfl rfl fun k => congrArg wrap16 (min_max_swap (-bound - 1) bound (a k))
  case uclip => exact delivers_mapHalves rfl rfl fun k => congrArg wrap16 (min_max_swap 0 bound (a k))
  case avg => exact delivers_mapBytes rfl rfl fun _ => toNat_average _ _
  case umax => exact delivers_mapBytes rfl rfl fun _ => toNat_select_max _ _
  case umin => exact delivers_mapBytes rfl rfl fun _ => toNat_select_min _ _
  case mulmsb => exact delivers_mapBytes rfl rfl fun _ => toNat_mulHigh _ _
  case addui =>
    refine ⟨_, delivers_issueValue rfl rfl rfl, fun k hk => ?_⟩
    rw [byteAt_mapBytes _ _ _ hk]
    exact toNat_clipU8 _

end Sys2Proof.Machine
end

section
/-! SUPPORT. Sums over packed fields (spec/42_dsp.md R331 to R333, R343 to R346). -/
namespace Sys2Proof.Machine

theorem sumHalves_eq_sum (f : BitVec 16 → BitVec 16 → Int) (x y : Word) :
    sumHalves f x y = ((List.range 2).map fun k => f (halfAt x k) (halfAt y k)).sum := by
  simp only [sumHalves, List.range_succ, List.range_zero, List.nil_append, List.cons_append, List.map_cons, List.map_nil,
    List.sum_cons, List.sum_nil]
  omega

theorem sumBytes_eq_sum (f : Byte → Byte → Int) (x y : Word) :
    sumBytes f x y = ((List.range 4).map fun k => f (byteAt x k) (byteAt y k)).sum := by
  simp only [sumBytes, List.range_succ, List.range_zero, List.nil_append, List.cons_append, List.map_cons, List.map_nil,
    List.sum_cons, List.sum_nil]
  omega

/-- A sum over the halfwords of natural numbers, clipped to the unsigned range. -/
theorem clipU32_sumHalves (f : BitVec 16 → BitVec 16 → Nat) (x y : Word) :
    clipU32 (sumHalves (fun p q => f p q) x y) =
      BitVec.ofNat 32 (min (2 ^ 32 - 1) ((List.range 2).map fun k => f (halfAt x k) (halfAt y k)).sum) := by
  rw [sumHalves_eq_sum, ← clipU32_natCast, Nat.cast_list_sum, List.map_map]
  rfl

/-- Settles O54: every operation here is `issueValue` of its unit, whose value is a sum over the places. -/
theorem sumsOfProducts : Obligations.SumsOfProducts := by
  intro g s1 s2 d s sh sb ub a b
  have dspmul {i v w} (h : exec i s = issueValue .dspmul g d v s) := delivers_issueValue (w := w) h rfl
  have dspalu {i v w} (h : exec i s = issueValue .dspalu g d v s) := delivers_issueValue (w := w) h rfl
  have bytes (f) : wrap32 (sumBytes f a b) = BitVec.ofInt 32 _ := congrArg _ (sumBytes_eq_sum f a b)
  refine ⟨?ifir16, ?ufir16, ?ifir8ii, ?ifir8ui, ?ufir8uu, ?ume8ii, ?ume8uu⟩
  case ifir16 => exact dspmul rfl ((clip32_eq _).trans (by rw [sumHalves_eq_sum]))
  case ufir16 => exact dspmul rfl (clipU32_sumHalves (fun p q => p.toNat * q.toNat) a b)
  case ifir8ii | ifir8ui | ufir8uu => exact dspmul rfl (bytes _)
  case ume8ii | ume8uu => exact dspalu rfl (bytes _)

end Sys2Proof.Machine
end

section
/-! SUPPORT. Floating-point operations at their issue (R360, R365, R376), with the statement about the arithmetic. -/
namespace Sys2Proof.Machine

/-- A value and its flags put on their way together. -/
theorem issueResult_issueFlags (s : State) (d : Reg) (v flags : Word) (lat : Nat) :
    (s.issueResult d v lat).issueFlags flags lat =
      { s with
        results := ⟨d, v, lat⟩ :: s.results
        flagUpdates := if flags = 0 then s.flagUpdates else ⟨flags, lat⟩ :: s.flagUpdates } := by
  by_cases h : flags = 0
  · rw [if_pos h]
    exact if_pos h
  · rw [if_neg h]
    exact if_neg h

/-- An operation that is `issueFloat` delivers its value and its flags. -/
theorem deliversFloat_issueFloat {i : Instr} {u : FuncUnit} {g d : Reg} {lat : Nat} {s : State} {r : FpOut}
    (h : exec i s = issueFloat u g d r s) (hlat : u.latency = lat) : DeliversFloat i g d lat s r := by
  subst hlat
  rw [DeliversFloat, h, issueFloat_eq, issueResult_issueFlags]
  rfl

/-- An ftough operation on a recovered unit occupies it and then issues (R376). -/
theorem onFtough_recovered (f : State → Out) {s : State} (h : s.ftoughBusy = 0) :
    onFtough f s = f { s with ftoughBusy := 16 } := if_pos h

/-- An ftough operation on a busy unit is refused (U24). -/
theorem onFtough_busy (f : State → Out) {s : State} (h : s.ftoughBusy ≠ 0) : onFtough f s = .refused .ftoughBusy :=
  if_neg h

section
variable (g s1 s2 d : Reg) (s : State)

/-! What the operations of the ftough unit do behind it (R370, R371, R377, R378). -/

theorem exec_fdiv_onFtough : exec (.fdiv g s1 s2 d) s =
    onFtough (fun s => issueFloat .ftough g d (fpDiv (ieeeMode s.pcsw) (s.reg s1) (s.reg s2)) s) s := rfl

theorem exec_fdivflags_onFtough : exec (.fdivflags g s1 s2 d) s =
    onFtough (fun s => issueFloatFlags .ftough g d (fpDiv (ieeeMode s.pcsw) (s.reg s1) (s.reg s2)) s) s := rfl

theorem exec_fsqrt_onFtough : exec (.fsqrt g s1 d) s =
    onFtough (fun s => issueFloat .ftough g d (fpSqrt (ieeeMode s.pcsw) (s.reg s1)) s) s := rfl

theorem exec_fsqrtflags_onFtough : exec (.fsqrtflags g s1 d) s =
    onFtough (fun s => issueFloatFlags .ftough g d (fpSqrt (ieeeMode s.pcsw) (s.reg s1)) s) s := rfl

end

/-- Settles O55: every operation here is `issueFloat` of its unit, its flags form `issueValue` of the flags, and those of
the ftough unit are so behind `onFtough`. -/
theorem floatArithmeticCompletes : Obligations.FloatArithmeticCompletes := by
  intro g s1 s2 d s a b mode u
  have falu {i r} (h : exec i s = issueFloat .falu g d r s) := deliversFloat_issueFloat h rfl
  have faluFlags {i v} (h : exec i s = issueValue .falu g d v s) := delivers_issueValue h rfl rfl
  refine ⟨?fadd, ?faddflags, ?fsub, ?fsubflags, ?fmul, ?fmulflags, ?fabsval, ?fabsvalflags, ?fsign, ?fsignflags,
    fun h => ⟨?fdiv, ?fdivflags, ?fsqrt, ?fsqrtflags, issueFloat_eq .ftough g d _ u, issueFloat_eq .ftough g d _ u⟩,
    fun h => ⟨?fdivBusy, ?fdivflagsBusy, ?fsqrtBusy, ?fsqrtflagsBusy⟩⟩
  case fadd | fsub | fabsval => exact falu rfl
  case faddflags | fsubflags | fabsvalflags => exact faluFlags rfl
  case fmul => exact deliversFloat_issueFloat (u := .ifmul) rfl rfl
  case fmulflags => exact delivers_issueValue (u := .ifmul) rfl rfl rfl
  case fsign => exact deliversFloat_issueFloat (u := .fcomp) rfl rfl
  case fsignflags => exact delivers_issueValue (u := .fcomp) rfl rfl rfl
  case fdiv => exact (exec_fdiv_onFtough ..).trans (onFtough_recovered _ h)
  case fdivflags =>
    exact (exec_fdivflags_onFtough ..).trans ((onFtough_recovered _ h).trans (issueValue_eq .ftough g d _ u))
  case fsqrt => exact (exec_fsqrt_onFtough ..).trans (onFtough_recovered _ h)
  case fsqrtflags =>
    exact (exec_fsqrtflags_onFtough ..).trans ((onFtough_recovered _ h).trans (issueValue_eq .ftough g d _ u))
  case fdivBusy => exact (exec_fdiv_onFtough ..).trans (onFtough_busy _ h)
  case fdivflagsBusy => exact (exec_fdivflags_onFtough ..).trans (onFtough_busy _ h)
  case fsqrtBusy => exact (exec_fsqrt_onFtough ..).trans (onFtough_busy _ h)
  case fsqrtflagsBusy => exact (exec_fsqrtflags_onFtough ..).trans (onFtough_busy _ h)

end Sys2Proof.Machine
end

section
/-! SUPPORT. The fields of a single (R360), input flush to zero (R361) and what `fpBinary` and `fpSqrt` do with NaN and
denormalized operands (R361, R363), whatever the operation. -/
namespace Sys2Proof.Machine

/-! ### Fields -/

theorem fExp_eq (a : Word) : fExp a = a.toNat / 2 ^ 23 % 2 ^ 8 := by
  rw [fExp, BitVec.extractLsb'_toNat, Nat.shiftRight_eq_div_pow]

theorem fFrac_eq (a : Word) : fFrac a = a.toNat % 2 ^ 23 := by
  rw [fFrac, BitVec.extractLsb'_toNat, Nat.shiftRight_eq_div_pow, Nat.pow_zero, Nat.div_one]

theorem fSign_eq (a : Word) : fSign a = decide (2 ^ 31 ≤ a.toNat) :=
  (BitVec.msb_eq_getLsbD_last a).symm.trans (BitVec.msb_eq_decide a)

theorem fExp_lt (a : Word) : fExp a < 256 := (a.extractLsb' 23 8).isLt

theorem fFrac_lt (a : Word) : fFrac a < 2 ^ 23 := (a.extractLsb' 0 23).isLt

/-- A word is its three fields. -/
theorem word_eq_of_fields {a b : Word} (hs : fSign a = fSign b) (he : fExp a = fExp b) (hf : fFrac a = fFrac b) :
    a = b := by
  rw [fSign_eq, fSign_eq, decide_eq_decide] at hs
  rw [fExp_eq, fExp_eq] at he
  rw [fFrac_eq, fFrac_eq] at hf
  refine BitVec.eq_of_toNat_eq ?_
  omega

theorem and_signBit (a : Word) : a &&& 0x80000000 = if fSign a then 0x80000000 else 0 := BitVec.and_twoPow a 31

theorem fSign_and_signBit (a : Word) : fSign (a &&& 0x80000000) = fSign a := by
  rw [and_signBit]
  cases fSign a <;> rfl

theorem fExp_and_signBit (a : Word) : fExp (a &&& 0x80000000) = 0 := by
  rw [and_signBit]
  cases fSign a <;> rfl

theorem fFrac_and_signBit (a : Word) : fFrac (a &&& 0x80000000) = 0 := by
  rw [and_signBit]
  cases fSign a <;> rfl

theorem fSign_xor_signBit (a : Word) : fSign (a ^^^ 0x80000000) = !fSign a := by
  unfold fSign
  rw [BitVec.getLsbD_xor]
  exact Bool.xor_true _

theorem fExp_xor_signBit (a : Word) : fExp (a ^^^ 0x80000000) = fExp a := by
  unfold fExp
  rw [BitVec.extractLsb'_xor]
  exact congrArg BitVec.toNat BitVec.xor_zero

theorem fFrac_xor_signBit (a : Word) : fFrac (a ^^^ 0x80000000) = fFrac a := by
  unfold fFrac
  rw [BitVec.extractLsb'_xor]
  exact congrArg BitVec.toNat BitVec.xor_zero

/-! ### Input flush to zero (R361) -/

/-- Flushing acts on the exponent field 0 alone: on a zero it does nothing. -/
theorem ftz_eq (a : Word) : ftz a = if fExp a = 0 then a &&& 0x80000000 else a := by
  by_cases he : fExp a = 0
  · by_cases hf : fFrac a = 0
    · have hzero : a &&& 0x80000000 = a :=
        word_eq_of_fields (fSign_and_signBit a) ((fExp_and_signBit a).trans he.symm) ((fFrac_and_signBit a).trans hf.symm)
      rw [hzero, ite_self, ftz, hzero, ite_self]
    · simp [ftz, isDenorm, he, hf]
  · simp [ftz, isDenorm, he]

theorem ftz_of_fExp_eq_zero {a : Word} (h : fExp a = 0) : ftz a = a &&& 0x80000000 := by rw [ftz_eq, if_pos h]

theorem ftz_of_fExp_ne_zero {a : Word} (h : fExp a ≠ 0) : ftz a = a := by rw [ftz_eq, if_neg h]

@[simp] theorem fSign_ftz (a : Word) : fSign (ftz a) = fSign a := by
  rw [ftz_eq]
  split
  · exact fSign_and_signBit a
  · rfl

@[simp] theorem fExp_ftz (a : Word) : fExp (ftz a) = fExp a := by
  rw [ftz_eq]
  split
  · exact (fExp_and_signBit a).trans (Eq.symm ‹_›)
  · rfl

theorem fFrac_ftz (a : Word) : fFrac (ftz a) = if fExp a = 0 then 0 else fFrac a := by
  rw [ftz_eq]
  split
  · exact fFrac_and_signBit a
  · rfl

@[simp] theorem mant_ftz (a : Word) : mant (ftz a) = mant a := by
  by_cases h : fExp a = 0
  · simp [mant, h]
  · rw [ftz_of_fExp_ne_zero h]

@[simp] theorem expo_ftz (a : Word) : expo (ftz a) = expo a := by
  rw [expo, expo, fExp_ftz]

@[simp] theorem isInf_ftz (a : Word) : isInf (ftz a) = isInf a := by
  by_cases h : fExp a = 0
  · simp [isInf, h]
  · rw [ftz_of_fExp_ne_zero h]

theorem ftz_of_isInf {a : Word} (h : isInf a = true) : ftz a = a := by
  simp only [isInf, Bool.and_eq_true, decide_eq_true_eq] at h
  exact ftz_of_fExp_ne_zero (by omega)

theorem ftz_xor_signBit (a : Word) : ftz a ^^^ 0x80000000 = ftz (a ^^^ 0x80000000) :=
  word_eq_of_fields (by simp only [fSign_xor_signBit, fSign_ftz]) (by simp only [fExp_xor_signBit, fExp_ftz])
    (by simp only [fFrac_xor_signBit, fFrac_ftz, fExp_xor_signBit])

/-- A denormalized operand is flushed to what the zero of its sign is flushed to. -/
theorem ftz_and_signBit {a : Word} (h : isDenorm a = true) : ftz (a &&& 0x80000000) = ftz a := by
  simp only [isDenorm, Bool.and_eq_true, decide_eq_true_eq] at h
  rw [ftz_of_fExp_eq_zero h.1, ftz_of_fExp_eq_zero (fExp_and_signBit a), BitVec.and_assoc, BitVec.and_self]

theorem isNaN_of_isDenorm {a : Word} (h : isDenorm a = true) : isNaN a = false := by
  simp only [isDenorm, Bool.and_eq_true, decide_eq_true_eq] at h
  simp [isNaN, h.1]

theorem isNaN_and_signBit (a : Word) : isNaN (a &&& 0x80000000) = false := by
  rw [isNaN, fExp_and_signBit]
  rfl

theorem isDenorm_of_isNaN {a : Word} (h : isNaN a = true) : isDenorm a = false := by
  simp only [isNaN, Bool.and_eq_true, decide_eq_true_eq] at h
  simp [isDenorm, h.1]

/-! ### IFZ among the flags (R361) -/

theorem ifzFlag_ifz (a : Word) : (ifzFlag a).getLsbD 5 = isDenorm a := by
  unfold ifzFlag
  cases isDenorm a <;> rfl

theorem ifzFlag_inv (a : Word) : (ifzFlag a).getLsbD 4 = false := by
  unfold ifzFlag
  cases isDenorm a <;> rfl

theorem getLsbD_allButIfz (j : Nat) : (~~~(0x20 : Word)).getLsbD j = (decide (j < 32) && !decide (j = 5)) := by
  rw [BitVec.getLsbD_not, show (0x20 : Word) = BitVec.twoPow 32 5 from rfl, BitVec.getLsbD_twoPow]
  grind

/-- Taking IFZ away from flags without it leaves them as they were. -/
theorem ifz_masked {flags : Word} (h : flags.getLsbD 5 = false) : flags &&& ~~~0x20 = flags := by
  refine BitVec.eq_of_getLsbD_eq fun j hj => ?_
  rw [BitVec.getLsbD_and, getLsbD_allButIfz, decide_eq_true hj]
  by_cases h5 : j = 5
  · rw [h5, h, Bool.false_and]
  · simp [h5]

theorem or_and_allButIfz (x y : Word) : (x ||| y) &&& ~~~0x20 = (x &&& ~~~0x20) ||| (y &&& ~~~0x20) := by
  refine BitVec.eq_of_getLsbD_eq fun j hj => ?_
  simp only [BitVec.getLsbD_and, BitVec.getLsbD_or, Bool.and_or_distrib_right]

theorem ifzFlag_masked (a : Word) : ifzFlag a &&& ~~~0x20 = 0 := by
  unfold ifzFlag
  cases isDenorm a <;> rfl

/-! ### NaN operands (R363, D16) -/

theorem nanOut_inv (a b : Word) : (nanOut a b).flags.getLsbD 4 = (isSNaN a || isSNaN b) := by
  unfold nanOut
  dsimp only
  cases isSNaN a || isSNaN b <;> rfl

theorem nanOut_ifz (a b : Word) : (nanOut a b).flags.getLsbD 5 = false := by
  unfold nanOut
  dsimp only
  cases isSNaN a || isSNaN b <;> rfl

/-! ### Two operands -/

section
variable {f : Word → Word → FpOut} {a b : Word}

theorem fpBinary_of_nan (f : Word → Word → FpOut) (h : isNaN a = true ∨ isNaN b = true) :
    fpBinary f a b = ⟨(nanOut a b).value, (nanOut a b).flags ||| ifzFlag a ||| ifzFlag b⟩ := by
  rw [fpBinary, if_pos (Bool.or_eq_true_iff.2 h)]

theorem fpBinary_of_numbers (f : Word → Word → FpOut) (ha : isNaN a = false) (hb : isNaN b = false) :
    fpBinary f a b = ⟨(f (ftz a) (ftz b)).value, (f (ftz a) (ftz b)).flags ||| ifzFlag a ||| ifzFlag b⟩ := by
  rw [fpBinary, if_neg (by simp [ha, hb])]

theorem fpBinary_value_nan_left (h : isNaN a = true) : (fpBinary f a b).value = a ||| 0x00400000 := by
  rw [fpBinary_of_nan f (.inl h)]
  exact congrArg (· ||| 0x00400000) (if_pos h)

theorem fpBinary_value_nan_right (ha : isNaN a = false) (hb : isNaN b = true) :
    (fpBinary f a b).value = b ||| 0x00400000 := by
  rw [fpBinary_of_nan f (.inr hb)]
  exact congrArg (· ||| 0x00400000) (if_neg (by simp [ha]))

theorem fpBinary_inv_of_nan (h : isNaN a = true ∨ isNaN b = true) :
    (fpBinary f a b).flags.getLsbD 4 = true ↔ isSNaN a = true ∨ isSNaN b = true := by
  simp only [fpBinary_of_nan f h, BitVec.getLsbD_or, nanOut_inv, ifzFlag_inv, Bool.or_false, Bool.or_eq_true]

/-- IFZ tells the denormalized operands, where the operation itself never sets it. -/
theorem fpBinary_ifz (hf : ∀ x y, (f x y).flags.getLsbD 5 = false) :
    (fpBinary f a b).flags.getLsbD 5 = (isDenorm a || isDenorm b) := by
  unfold fpBinary
  split <;> simp only [BitVec.getLsbD_or, nanOut_ifz, hf, ifzFlag_ifz, Bool.false_or]

theorem fpBinary_value_denorm_left (h : isDenorm a = true) :
    (fpBinary f a b).value = (fpBinary f (a &&& 0x80000000) b).value := by
  have ha := isNaN_of_isDenorm h
  cases hb : isNaN b with
  | true => rw [fpBinary_value_nan_right ha hb, fpBinary_value_nan_right (isNaN_and_signBit a) hb]
  | false => rw [fpBinary_of_numbers f ha hb, fpBinary_of_numbers f (isNaN_and_signBit a) hb, ftz_and_signBit h]

theorem fpBinary_value_denorm_right (h : isDenorm b = true) :
    (fpBinary f a b).value = (fpBinary f a (b &&& 0x80000000)).value := by
  have hb := isNaN_of_isDenorm h
  cases ha : isNaN a with
  | true => rw [fpBinary_value_nan_left ha, fpBinary_value_nan_left ha]
  | false => rw [fpBinary_of_numbers f ha hb, fpBinary_of_numbers f ha (isNaN_and_signBit b), ftz_and_signBit h]

/-- Between numbers the outcome without IFZ is that of the operation on the flushed operands. -/
theorem fpBinary_noIfz (hf : ∀ x y, (f x y).flags.getLsbD 5 = false) (ha : isNaN a = false) (hb : isNaN b = false) :
    (fpBinary f a b).noIfz = f (ftz a) (ftz b) := by
  rw [fpBinary_of_numbers f ha hb, FpOut.noIfz, or_and_allButIfz, or_and_allButIfz,
    ifz_masked (hf ..), ifzFlag_masked, ifzFlag_masked]
  exact congrArg _ (BitVec.or_zero.trans BitVec.or_zero)

end

/-! ### One operand -/

theorem fpSqrt_of_nan (mode : BitVec 2) {a : Word} (h : isNaN a = true) :
    fpSqrt mode a = ⟨a ||| 0x00400000, if isSNaN a then 0x10 else 0⟩ := by
  simp only [fpSqrt, if_pos h, nanOut, ifzFlag, isDenorm_of_isNaN h, Bool.or_self, Bool.false_eq_true, if_false]
  exact congrArg _ BitVec.or_zero

theorem fpSqrt_of_number (mode : BitVec 2) {a : Word} (h : isNaN a = false) :
    fpSqrt mode a = ⟨(sqrtCore mode (ftz a)).value, (sqrtCore mode (ftz a)).flags ||| ifzFlag a⟩ := by
  rw [fpSqrt, if_neg (by simp [h])]

/-! ### No operation sets IFZ itself -/

theorem roundPack_ifz (mode : BitVec 2) (sign : Bool) (m : Nat) (e : Int) :
    (roundPack mode sign m e).flags.getLsbD 5 = false := by
  rw [roundPack_eq]
  dsimp only
  split_ifs
  all_goals
    dsimp only
    rfl

theorem ite_ifz {p : Prop} [Decidable p] {x y : FpOut} (hx : x.flags.getLsbD 5 = false)
    (hy : y.flags.getLsbD 5 = false) : (if p then x else y).flags.getLsbD 5 = false := by
  split
  · exact hx
  · exact hy

theorem noFlags_ifz (v : Word) : (FpOut.mk v 0).flags.getLsbD 5 = false := show (0 : Word).getLsbD 5 = false from rfl

theorem invalidOut_ifz : invalidOut.flags.getLsbD 5 = false := rfl

theorem flagDBZ_ifz (v : Word) : (FpOut.mk v flagDBZ).flags.getLsbD 5 = false :=
  show flagDBZ.getLsbD 5 = false from rfl

theorem addCore_ifz (mode : BitVec 2) (a b : Word) : (addCore mode a b).flags.getLsbD 5 = false :=
  ite_ifz (ite_ifz invalidOut_ifz (noFlags_ifz _))
    (ite_ifz (noFlags_ifz _) (ite_ifz (noFlags_ifz _) (roundPack_ifz ..)))

theorem mulCore_ifz (mode : BitVec 2) (a b : Word) : (mulCore mode a b).flags.getLsbD 5 = false :=
  ite_ifz (ite_ifz invalidOut_ifz (noFlags_ifz _)) (ite_ifz (noFlags_ifz _) (roundPack_ifz ..))

theorem divCore_ifz (mode : BitVec 2) (a b : Word) : (divCore mode a b).flags.getLsbD 5 = false :=
  ite_ifz (ite_ifz invalidOut_ifz (noFlags_ifz _))
    (ite_ifz (noFlags_ifz _)
      (ite_ifz (ite_ifz invalidOut_ifz (flagDBZ_ifz _)) (ite_ifz (noFlags_ifz _) (roundPack_ifz ..))))

theorem sqrtCore_ifz (mode : BitVec 2) (a : Word) : (sqrtCore mode a).flags.getLsbD 5 = false :=
  ite_ifz (noFlags_ifz _) (ite_ifz invalidOut_ifz (ite_ifz (noFlags_ifz _) (roundPack_ifz ..)))

theorem fpSqrt_noIfz (mode : BitVec 2) {a : Word} (h : isNaN a = false) :
    (fpSqrt mode a).noIfz = sqrtCore mode (ftz a) := by
  rw [fpSqrt_of_number mode h, FpOut.noIfz, or_and_allButIfz, ifz_masked (sqrtCore_ifz ..), ifzFlag_masked]
  exact congrArg _ BitVec.or_zero

theorem fpSqrt_ifz (mode : BitVec 2) {a : Word} (h : isNaN a = false) :
    (fpSqrt mode a).flags.getLsbD 5 = isDenorm a := by
  rw [fpSqrt_of_number mode h, BitVec.getLsbD_or, sqrtCore_ifz, ifzFlag_ifz, Bool.false_or]

end Sys2Proof.Machine
end

section
/-! SUPPORT. Sums and products (R364): the exact value that the model rounds, in the terms of the statements. -/
namespace Sys2Proof.Machine

/-! ### Magnitudes -/

theorem mant_eq_zero {a : Word} : mant a = 0 ↔ fExp a = 0 := by
  unfold mant
  split <;> omega

theorem mant_lt (a : Word) : mant a < 2 ^ 24 := by
  have := fFrac_lt a
  unfold mant
  split <;> omega

theorem le_mant {a : Word} (h : fExp a ≠ 0) : 2 ^ 23 ≤ mant a := by
  rw [mant, if_neg h]
  exact Nat.le_add_right ..

theorem fpMagnitude_eq (a : Word) : fpMagnitude a = mant a * 2 ^ (fExp a - 1) := by
  unfold fpMagnitude mant
  rw [ite_mul, Nat.zero_mul]
  rfl

theorem fpMagnitude_eq_zero {a : Word} : fpMagnitude a = 0 ↔ fExp a = 0 := by
  rw [fpMagnitude_eq, Nat.mul_eq_zero, mant_eq_zero]
  exact or_iff_left (Nat.two_pow_pos _).ne'

theorem isZero_ftz (a : Word) : isZero (ftz a) = true ↔ fpMagnitude a = 0 := by
  rw [fpMagnitude_eq_zero, isZero, fExp_ftz, fFrac_ftz, Bool.and_eq_true, decide_eq_true_eq, decide_eq_true_eq]
  exact and_iff_left_of_imp fun h => if_pos h

theorem fExp_of_isInf {a : Word} (h : isInf a = true) : fExp a = 255 := by
  simp only [isInf, Bool.and_eq_true, decide_eq_true_eq] at h
  exact h.1

theorem withSign_zero (neg : Bool) : withSign neg 0 = if neg then 0x80000000 else 0 := by
  cases neg <;> rfl

/-! ### Rounding a ratio -/

/-- Rounding depends on the ratio alone. -/
theorem rounded_ratio {mode : BitVec 2} {neg : Bool} {n d n' d' q : Nat} (hd : 0 < d) (hd' : 0 < d')
    (h : n * d' = n' * d) : Rounded mode neg n d q ↔ Rounded mode neg n' d' q := by
  rw [← rounded_scale mode neg n d q hd', h, Nat.mul_comm d d', rounded_scale mode neg n' d' q hd]

theorem le_ratio {n d n' d' : Nat} (hd : 0 < d) (hd' : 0 < d') (h : n * d' = n' * d) (t : Nat) :
    t * d ≤ n ↔ t * d' ≤ n' := by
  rw [← Nat.mul_le_mul_right_iff hd', h, Nat.mul_right_comm, Nat.mul_le_mul_right_iff hd]

theorem eq_ratio {n d n' d' : Nat} (hd : 0 < d) (hd' : 0 < d') (h : n * d' = n' * d) (t : Nat) :
    t * d = n ↔ t * d' = n' := by
  rw [← Nat.mul_left_inj hd'.ne', h, Nat.mul_right_comm, Nat.mul_left_inj hd.ne']

/-- The rounding to a single depends on the ratio alone, too. -/
theorem RoundsTo.of_ratio {mode : BitVec 2} {neg : Bool} {n d n' d' : Nat} {r : FpOut} (hr : RoundsTo mode neg n d r)
    (hd : 0 < d) (hd' : 0 < d') (h : n * d' = n' * d) : RoundsTo mode neg n' d' r := by
  obtain ⟨hsmall, hnormal⟩ := hr
  have hlt (t : Nat) : n < t * d ↔ n' < t * d' := by
    rw [← Nat.not_le, ← Nat.not_le, le_ratio hd hd' h]
  refine ⟨fun hn => ?_, fun k hlo hhi => ?_⟩
  · obtain ⟨q, hq, he⟩ := hsmall ((hlt _).2 hn)
    exact ⟨q, (rounded_ratio hd hd' h).1 hq, he⟩
  · obtain ⟨q, hq, he⟩ := hnormal k ((le_ratio hd hd' h _).2 hlo) ((hlt _).2 hhi)
    have hk : n * (d' * 2 ^ k) = n' * (d * 2 ^ k) := by rw [← Nat.mul_assoc, h, Nat.mul_assoc]
    have hpos : 0 < 2 ^ k := Nat.two_pow_pos k
    have hinx : (if q * (d * 2 ^ k) = n then (0 : Word) else 0x02) = if q * (d' * 2 ^ k) = n' then 0 else 0x02 :=
      if_congr (eq_ratio (Nat.mul_pos hd hpos) (Nat.mul_pos hd' hpos) hk q) rfl rfl
    refine ⟨q, (rounded_ratio (Nat.mul_pos hd hpos) (Nat.mul_pos hd' hpos) hk).1 hq, ?_⟩
    generalize 2 ^ 277 = limit at he ⊢
    rw [hinx] at he
    exact he

/-- `roundPack` rounds `m * 2 ^ e`. -/
theorem roundPack_roundsTo (mode : BitVec 2) (neg : Bool) {m : Nat} (e : Int) (hm : 0 < m) :
    RoundsTo mode neg (m * 2 ^ (e + 149).toNat) (2 ^ (-(e + 149)).toNat) (roundPack mode neg m e) :=
  ⟨roundPack_small mode neg hm, fun _ hlo hhi => roundPack_normal mode neg hm hlo hhi⟩

/-! ### Sums -/

/-- An operand in the units of a sum, `2 ^ e`, is its magnitude. -/
theorem mant_scaled (a : Word) {e : Int} (he : e ≤ expo a) :
    mant a * 2 ^ (expo a - e).toNat * 2 ^ (e + 149).toNat = fpMagnitude a * 2 ^ (-(e + 149)).toNat := by
  rw [fpMagnitude_eq]
  by_cases h0 : fExp a = 0
  · rw [mant_eq_zero.2 h0]
    omega
  · have hexp : (expo a - e).toNat + (e + 149).toNat = (fExp a - 1) + (-(e + 149)).toNat := by
      unfold expo at he ⊢
      omega
    rw [Nat.mul_assoc, Nat.mul_assoc, ← Nat.pow_add, ← Nat.pow_add, hexp]

theorem fpScaled_eq (a : Word) : fpScaled a = if fSign a then -(fpMagnitude a : Int) else fpMagnitude a := rfl

/-- An operand with its sign in the units of a sum. -/
theorem signed_mant_scaled (a : Word) {e : Int} (he : e ≤ expo a) :
    (if fSign a then -((mant a * 2 ^ (expo a - e).toNat : Nat) : Int) else (mant a * 2 ^ (expo a - e).toNat : Nat))
      * (2 ^ (e + 149).toNat : Nat) = fpScaled a * (2 ^ (-(e + 149)).toNat : Nat) := by
  have h := congrArg (Nat.cast (R := Int)) (mant_scaled a he)
  rw [Nat.cast_mul, Nat.cast_mul (fpMagnitude a)] at h
  rw [fpScaled_eq, ite_mul, ite_mul, Int.neg_mul, Int.neg_mul, h]

/-- The exact sum of the model is the sum of the statement. -/
theorem exactSum_scaled (a b : Word) :
    (exactSum a b).1 * (2 ^ ((exactSum a b).2 + 149).toNat : Nat)
      = (fpScaled a + fpScaled b) * (2 ^ (-((exactSum a b).2 + 149)).toNat : Nat) := by
  have ha := signed_mant_scaled a (Int.min_le_left (expo a) (expo b))
  have hb := signed_mant_scaled b (Int.min_le_right (expo a) (expo b))
  rw [Int.add_mul, show (exactSum a b).2 = min (expo a) (expo b) from rfl, ← ha, ← hb, ← Int.add_mul]
  rfl

theorem exactSum_ftz (a b : Word) : exactSum (ftz a) (ftz b) = exactSum a b := by
  simp only [exactSum, mant_ftz, expo_ftz, fSign_ftz]

theorem two_pow_cast_pos (k : Nat) : (0 : Int) < (2 ^ k : Nat) := Int.natCast_pos.2 (Nat.two_pow_pos k)

theorem exactSum_eq_zero (a b : Word) : (exactSum a b).1 = 0 ↔ fpScaled a + fpScaled b = 0 := by
  rw [← mul_eq_zero_iff_right (two_pow_cast_pos ((exactSum a b).2 + 149).toNat).ne', exactSum_scaled,
    mul_eq_zero_iff_right (two_pow_cast_pos _).ne']

theorem exactSum_neg (a b : Word) : (exactSum a b).1 < 0 ↔ fpScaled a + fpScaled b < 0 := by
  rw [← not_le, ← not_le, ← mul_nonneg_iff_of_pos_right (two_pow_cast_pos ((exactSum a b).2 + 149).toNat),
    exactSum_scaled, mul_nonneg_iff_of_pos_right (two_pow_cast_pos _)]

/-- Infinities differ by their sign alone. -/
theorem infinities_eq_iff {a b : Word} (ha : isInf a = true) (hb : isInf b = true) : a = b ↔ fSign a = fSign b := by
  refine ⟨fun h => h ▸ rfl, fun h => ?_⟩
  simp only [isInf, Bool.and_eq_true, decide_eq_true_eq] at ha hb
  exact word_eq_of_fields h (ha.1.trans hb.1.symm) (ha.2.trans hb.2.symm)

/-- A sum of opposite numbers (R364): zeros of one sign keep it, and -0 otherwise comes from mode 3 alone. -/
theorem zeroSum_sign (mode : BitVec 2) (a b : Word) :
    withSign (if fSign a = fSign b then fSign a else decide (mode = 3)) 0 =
      if fSign a = fSign b then a &&& 0x80000000 else if mode = 3 then 0x80000000 else 0 := by
  rw [withSign_zero, and_signBit]
  split
  · rfl
  · simp only [decide_eq_true_eq]

theorem addCore_sumOf (mode : BitVec 2) (a b : Word) : SumOf mode a b (addCore mode (ftz a) (ftz b)) := by
  unfold SumOf addCore
  rw [isInf_ftz, isInf_ftz, exactSum_ftz, fSign_ftz, fSign_ftz]
  split
  next ha =>
    rw [ftz_of_isInf ha]
    refine if_congr ?_ rfl rfl
    rw [Bool.and_eq_true, bne_iff_ne]
    exact and_congr_right fun hb => not_congr (infinities_eq_iff ha hb).symm
  next =>
    split
    next hb => rw [ftz_of_isInf hb]
    next =>
      dsimp only
      rw [if_congr (exactSum_eq_zero a b) rfl rfl]
      split
      next => exact congrArg (FpOut.mk · 0) (zeroSum_sign mode a b)
      next hne =>
        have habs := congrArg Int.natAbs (exactSum_scaled a b)
        rw [Int.natAbs_mul, Int.natAbs_mul, Int.natAbs_natCast, Int.natAbs_natCast] at habs
        rw [decide_eq_decide.2 (exactSum_neg a b)]
        have hpos : 0 < (exactSum a b).1.natAbs := Int.natAbs_pos.2 (mt (exactSum_eq_zero a b).1 hne)
        exact (roundPack_roundsTo mode _ _ hpos).of_ratio (Nat.two_pow_pos _) Nat.one_pos (by rw [Nat.mul_one, habs])

/-! ### Products -/

theorem isZero_or_isZero_ftz (a b : Word) :
    (isZero (ftz a) || isZero (ftz b)) = true ↔ fpMagnitude a = 0 ∨ fpMagnitude b = 0 := by
  rw [Bool.or_eq_true, isZero_ftz, isZero_ftz]

/-- The exact product of the model is the product of the magnitudes. -/
theorem mant_mul_scaled {a b : Word} (ha : fExp a ≠ 0) (hb : fExp b ≠ 0) :
    mant a * mant b * 2 ^ (expo a + expo b + 149).toNat * 2 ^ 149 =
      fpMagnitude a * fpMagnitude b * 2 ^ (-(expo a + expo b + 149)).toNat := by
  have hexp : (expo a + expo b + 149).toNat + 149 =
      (fExp a - 1) + (fExp b - 1) + (-(expo a + expo b + 149)).toNat := by
    unfold expo
    omega
  calc mant a * mant b * 2 ^ (expo a + expo b + 149).toNat * 2 ^ 149
      = mant a * mant b * 2 ^ ((expo a + expo b + 149).toNat + 149) := by ring
    _ = mant a * mant b * 2 ^ ((fExp a - 1) + (fExp b - 1) + (-(expo a + expo b + 149)).toNat) := by rw [hexp]
    _ = fpMagnitude a * fpMagnitude b * 2 ^ (-(expo a + expo b + 149)).toNat := by
      rw [fpMagnitude_eq, fpMagnitude_eq]
      ring

theorem mulCore_productOf (mode : BitVec 2) (a b : Word) : ProductOf mode a b (mulCore mode (ftz a) (ftz b)) := by
  unfold ProductOf mulCore
  dsimp only
  rw [isInf_ftz, isInf_ftz, fSign_ftz, fSign_ftz, mant_ftz, mant_ftz, expo_ftz, expo_ftz, withSign_zero, withSign_or,
    if_congr Bool.or_eq_true_iff rfl rfl, if_congr (isZero_or_isZero_ftz a b) rfl rfl,
    if_congr (isZero_or_isZero_ftz a b) rfl rfl]
  split
  next => rfl
  next =>
    rw [if_congr Nat.mul_eq_zero rfl rfl]
    split
    next => rfl
    next hne =>
      rw [fpMagnitude_eq_zero, fpMagnitude_eq_zero, not_or] at hne
      obtain ⟨ha, hb⟩ := hne
      have hpos : 0 < mant a * mant b :=
        Nat.mul_pos (Nat.pos_of_ne_zero (mt mant_eq_zero.1 ha)) (Nat.pos_of_ne_zero (mt mant_eq_zero.1 hb))
      exact (roundPack_roundsTo mode _ _ hpos).of_ratio (Nat.two_pow_pos _) (Nat.two_pow_pos 149) (mant_mul_scaled ha hb)

end Sys2Proof.Machine
end

section
/-! SUPPORT. Quotients (R364): the model rounds a 28-bit quotient with a sticky last bit, which is as good as the exact
quotient, because every number that rounding compares with is even in its units. -/
namespace Sys2Proof.Machine

/-! ### The sticky bit -/

theorem le_sticky (k t : Nat) (inexact : Bool) : 2 * t ≤ sticky k inexact ↔ t ≤ k := by
  unfold sticky
  split <;> omega

theorem sticky_le (k t : Nat) (inexact : Bool) : sticky k inexact ≤ 2 * t ↔ k < t ∨ k = t ∧ inexact = false := by
  unfold sticky
  cases inexact <;> simp
  omega

/-- `s` lies to every even integer as the quotient `n / d` does. -/
def SameSide (s n d : Nat) : Prop := ∀ t, (2 * t ≤ s ↔ 2 * t * d ≤ n) ∧ (s ≤ 2 * t ↔ n ≤ 2 * t * d)

theorem sticky_sameSide (n : Nat) {b : Nat} (hb : 0 < b) :
    SameSide (sticky (n / b) (decide (n % b ≠ 0))) (2 * n) b := by
  intro t
  have hmod := Nat.div_add_mod' n b
  rw [le_sticky, sticky_le, Nat.le_div_iff_mul_le hb, Nat.div_lt_iff_lt_mul hb, Nat.mul_assoc,
    Nat.mul_le_mul_left_iff Nat.two_pos, Nat.mul_le_mul_left_iff Nat.two_pos, decide_eq_false_iff_not, not_not]
  refine ⟨Iff.rfl, fun h => ?_, fun h => ?_⟩
  · rcases h with h | ⟨rfl, h0⟩ <;> omega
  · refine h.lt_or_eq.imp_right fun he => ?_
    rw [he]
    exact ⟨Nat.mul_div_cancel t hb, Nat.mul_mod_left t b⟩

section
variable {s n d : Nat}

/-- So they do at an even distance `2 * c` to either side of an even integer. -/
theorem SameSide.at_distance (h : SameSide s n d) (hd : 0 < d) (a c : Nat) :
    (2 * a ≤ s + 2 * c ↔ 2 * a * d ≤ n + 2 * c * d) ∧ (s + 2 * c ≤ 2 * a ↔ n + 2 * c * d ≤ 2 * a * d)
    ∧ (2 * a + 2 * c ≤ s ↔ 2 * a * d + 2 * c * d ≤ n) ∧ (s ≤ 2 * a + 2 * c ↔ n ≤ 2 * a * d + 2 * c * d) := by
  have hsum := h (a + c)
  rw [Nat.mul_add, Nat.add_mul] at hsum
  rcases Nat.lt_or_ge a c with hac | hca
  · have hlt : 2 * a * d < 2 * c * d := Nat.mul_lt_mul_of_pos_right (by omega) hd
    exact ⟨iff_of_true (by omega) (by omega), iff_of_false (by omega) (by omega), hsum⟩
  · obtain ⟨t, rfl⟩ := Nat.exists_eq_add_of_le hca
    obtain ⟨hle, hge⟩ := h t
    rw [Nat.mul_add 2 c t, Nat.add_mul (2 * c) (2 * t) d] at *
    exact ⟨by omega, by omega, hsum⟩

/-- Rounding to a multiple of `4 * g` looks at even integers only. -/
theorem SameSide.rounded (h : SameSide s n d) (hd : 0 < d) {mode : BitVec 2} {neg : Bool} {g q : Nat} :
    Rounded mode neg s (4 * g) q ↔ Rounded mode neg n (d * (4 * g)) q := by
  have hexact := h (2 * g * q)
  have hhalf := h.at_distance hd (2 * g * q) g
  have hfull := h.at_distance hd (2 * g * q) (2 * g)
  have hs : q * (4 * g) = 2 * (2 * g * q) := by ring
  have hn : q * (d * (4 * g)) = 2 * (2 * g * q) * d := by ring
  have hgrid : d * (4 * g) = 2 * (2 * g * d) := by ring
  rw [Nat.mul_assoc 2 (2 * g) d] at hfull
  rcases mode_cases mode with rfl | rfl | rfl | rfl
  · rw [rounded_nearest, rounded_nearest]
    omega
  · rw [rounded_toZero, rounded_toZero]
    omega
  · rw [rounded_upward, rounded_upward]
    split <;> omega
  · rw [rounded_downward, rounded_downward]
    split <;> omega

end

/-! ### Rounding with a sticky bit -/

section
variable {s n d g W P : Nat}

/-- `s * P` against a multiple of `W = 4 * g * P`. -/
theorem SameSide.scaled_le (h : SameSide s n d) (hP : 0 < P) (hW : W = 4 * g * P) (m : Nat) :
    m * W ≤ s * P ↔ m * (d * W) ≤ n * P := by
  have hs : m * W = 2 * (2 * g * m) * P := by rw [hW]; ring
  have hn : m * (d * W) = 2 * (2 * g * m) * d * P := by rw [hW]; ring
  rw [hs, hn, Nat.mul_le_mul_right_iff hP, Nat.mul_le_mul_right_iff hP, (h _).1]

theorem SameSide.scaled_eq (h : SameSide s n d) (hP : 0 < P) (hW : W = 4 * g * P) (m : Nat) :
    m * W = s * P ↔ m * (d * W) = n * P := by
  have hs : m * W = 2 * (2 * g * m) * P := by rw [hW]; ring
  have hn : m * (d * W) = 2 * (2 * g * m) * d * P := by rw [hW]; ring
  obtain ⟨hle, hge⟩ := h (2 * g * m)
  rw [hs, hn, Nat.mul_left_inj hP.ne', Nat.mul_left_inj hP.ne']
  omega

theorem SameSide.scaled_rounded (h : SameSide s n d) (hd : 0 < d) (hP : 0 < P) (hW : W = 4 * g * P) {mode : BitVec 2}
    {neg : Bool} {q : Nat} : Rounded mode neg (s * P) W q ↔ Rounded mode neg (n * P) (d * W) q := by
  rw [hW, rounded_scale mode neg s (4 * g) q hP, h.rounded hd, ← Nat.mul_assoc d (4 * g) P, rounded_scale mode neg n _ q hP]

end

/-- A value with more than 26 bits that is below `2 ^ 24` units `2 ^ w` has at least two bits below the unit. -/
theorem unit_eq_four_mul {p w : Nat} (h : 2 ^ 26 * 2 ^ p < 2 ^ 24 * 2 ^ w) : ∃ g, 2 ^ w = 4 * g * 2 ^ p := by
  rw [← Nat.pow_add, ← Nat.pow_add, Nat.pow_lt_pow_iff_right (by decide)] at h
  obtain ⟨t, rfl⟩ : ∃ t, w = 2 + t + p := ⟨w - 2 - p, by omega⟩
  exact ⟨2 ^ t, by rw [Nat.pow_add, Nat.pow_add]⟩

/-- A number of more than 26 bits that lies to the even integers as `n / d` does is rounded to the single of `n / d`. -/
theorem RoundsTo.of_sameSide {mode : BitVec 2} {neg : Bool} {s n d p c : Nat} {r : FpOut}
    (hr : RoundsTo mode neg (s * 2 ^ p) (2 ^ c) r) (h : SameSide s n d) (hd : 0 < d) (hs : 2 ^ 26 ≤ s) :
    RoundsTo mode neg (n * 2 ^ p) (d * 2 ^ c) r := by
  have hp : 0 < 2 ^ p := Nat.two_pow_pos p
  have hn : 2 ^ 26 * d ≤ n := (h (2 ^ 25)).1.1 hs
  have hgrid {m w : Nat} (hm : m ≤ 2 ^ 24) (hlt : n * 2 ^ p < m * (d * 2 ^ w)) : ∃ g, 2 ^ w = 4 * g * 2 ^ p := by
    refine unit_eq_four_mul (Nat.lt_of_mul_lt_mul_left (a := d) ?_)
    calc d * (2 ^ 26 * 2 ^ p) = 2 ^ 26 * d * 2 ^ p := by ring
      _ ≤ n * 2 ^ p := Nat.mul_le_mul_right _ hn
      _ < m * (d * 2 ^ w) := hlt
      _ ≤ 2 ^ 24 * (d * 2 ^ w) := Nat.mul_le_mul_right _ hm
      _ = d * (2 ^ 24 * 2 ^ w) := by ring
  obtain ⟨hsmall, hnormal⟩ := hr
  refine ⟨fun hlt => ?_, fun k hlo hhi => ?_⟩
  · obtain ⟨g, hg⟩ := hgrid (by decide) hlt
    obtain ⟨q, hq, he⟩ := hsmall (lt_of_not_ge (mt (h.scaled_le hp hg _).1 hlt.not_ge))
    exact ⟨q, (h.scaled_rounded hd hp hg).1 hq, he⟩
  · have hunit (j x : Nat) : 2 ^ (j + k) * (x * 2 ^ c) = 2 ^ j * (x * 2 ^ (c + k)) := by ring
    have hunit' (j : Nat) : 2 ^ (j + k) * 2 ^ c = 2 ^ j * 2 ^ (c + k) := by ring
    rw [hunit] at hlo hhi
    rw [Nat.mul_assoc, ← Nat.pow_add]
    obtain ⟨g, hg⟩ := hgrid le_rfl hhi
    rw [← h.scaled_le hp hg] at hlo
    have hhi' := lt_of_not_ge (mt (h.scaled_le hp hg _).1 hhi.not_ge)
    rw [← hunit'] at hlo hhi'
    obtain ⟨q, hq, he⟩ := hnormal k hlo hhi'
    rw [← Nat.pow_add] at hq he
    have hinx : (if q * 2 ^ (c + k) = s * 2 ^ p then (0 : Word) else 0x02) =
        if q * (d * 2 ^ (c + k)) = n * 2 ^ p then 0 else 0x02 := if_congr (h.scaled_eq hp hg q) rfl rfl
    refine ⟨q, (h.scaled_rounded hd hp hg).1 hq, ?_⟩
    generalize 2 ^ 277 = limit at he ⊢
    rw [hinx] at he
    exact he

/-! ### Quotients -/

/-- The ratio that the model divides is the quotient of the magnitudes. -/
theorem mant_div_scaled {a b : Word} (ha : fExp a ≠ 0) (hb : fExp b ≠ 0) :
    2 * (mant a * 2 ^ 27) * 2 ^ (expo a - expo b - 28 + 149).toNat * fpMagnitude b =
      fpMagnitude a * 2 ^ 149 * (mant b * 2 ^ (-(expo a - expo b - 28 + 149)).toNat) := by
  have hexp : 28 + (expo a - expo b - 28 + 149).toNat + (fExp b - 1) =
      (fExp a - 1) + 149 + (-(expo a - expo b - 28 + 149)).toNat := by
    unfold expo
    omega
  rw [fpMagnitude_eq, fpMagnitude_eq]
  calc 2 * (mant a * 2 ^ 27) * 2 ^ (expo a - expo b - 28 + 149).toNat * (mant b * 2 ^ (fExp b - 1))
      = mant a * mant b * 2 ^ (28 + (expo a - expo b - 28 + 149).toNat + (fExp b - 1)) := by ring
    _ = mant a * mant b * 2 ^ ((fExp a - 1) + 149 + (-(expo a - expo b - 28 + 149)).toNat) := by rw [hexp]
    _ = mant a * 2 ^ (fExp a - 1) * 2 ^ 149 * (mant b * 2 ^ (-(expo a - expo b - 28 + 149)).toNat) := by ring

/-- The model's quotient has at least 27 bits. -/
theorem le_quotient {a b : Word} (ha : fExp a ≠ 0) (hb : fExp b ≠ 0) : 2 ^ 26 ≤ mant a * 2 ^ 27 / mant b := by
  have hpos : 0 < mant b := Nat.pos_of_ne_zero (mt mant_eq_zero.1 hb)
  have hma := le_mant ha
  have hmb := mant_lt b
  rw [Nat.le_div_iff_mul_le hpos]
  omega

theorem divCore_quotientOf (mode : BitVec 2) (a b : Word) : QuotientOf mode a b (divCore mode (ftz a) (ftz b)) := by
  unfold QuotientOf divCore
  dsimp only
  rw [isInf_ftz, isInf_ftz, fSign_ftz, fSign_ftz, mant_ftz, mant_ftz, expo_ftz, expo_ftz, withSign_zero, withSign_or,
    if_congr (isZero_ftz a) rfl rfl, if_congr (isZero_ftz a) rfl rfl, if_congr (isZero_ftz b) rfl rfl]
  split
  next => rfl
  next =>
    split
    next => rfl
    next =>
      split
      next => rfl
      next hb =>
        split
        next => rfl
        next ha =>
          rw [fpMagnitude_eq_zero] at ha hb
          have hmb : 0 < mant b := Nat.pos_of_ne_zero (mt mant_eq_zero.1 hb)
          have hs := (le_sticky _ (2 ^ 26) (decide (mant a * 2 ^ 27 % mant b ≠ 0))).2 (le_quotient ha hb)
          have hexact := (roundPack_roundsTo mode (fSign a != fSign b) (expo a - expo b - 28)
            (Nat.lt_of_lt_of_le (by decide) hs)).of_sameSide (sticky_sameSide _ hmb) hmb (Nat.le_trans (by decide) hs)
          exact hexact.of_ratio (Nat.mul_pos hmb (Nat.two_pow_pos _)) (Nat.pos_of_ne_zero (mt fpMagnitude_eq_zero.1 hb))
            (mant_div_scaled ha hb)

end Sys2Proof.Machine
end

section
/-! SUPPORT. Square roots (R364, R377): the model's integer root with a sticky last bit lies to every even integer as the
exact root does, and the single it is rounded to keeps the bounds of `RootOf`. -/
namespace Sys2Proof.Machine

/-! ### The integer root -/

/-- The bits above `k` are found: the root lies between `r` and `r + 2 ^ k`. -/
theorem isqrtFrom_eq_sqrt {x k r : Nat} (hle : r * r ≤ x) (hlt : x < (r + 2 ^ k) * (r + 2 ^ k)) :
    isqrtFrom x k r = Nat.sqrt x := by
  induction k generalizing r with
  | zero => exact Nat.eq_sqrt.2 ⟨hle, hlt⟩
  | succ k ih =>
    have hk : r + 2 ^ (k + 1) = r + 2 ^ k + 2 ^ k := by rw [Nat.pow_succ]; omega
    rw [hk] at hlt
    rw [isqrtFrom]
    split
    next h => exact ih h hlt
    next h => exact ih hle (lt_of_not_ge h)

theorem isqrt_eq_sqrt {x : Nat} (h : x < 2 ^ 56) : isqrt x = Nat.sqrt x :=
  isqrtFrom_eq_sqrt (Nat.zero_le x) (by omega)

/-- `s` lies to every even integer as the root of `y` does. -/
def RootSide (s y : Nat) : Prop := ∀ t, (2 * t ≤ s ↔ 2 * t * (2 * t) ≤ y) ∧ (s ≤ 2 * t ↔ y ≤ 2 * t * (2 * t))

theorem sticky_rootSide (n : Nat) :
    RootSide (sticky (Nat.sqrt n) (decide (Nat.sqrt n * Nat.sqrt n ≠ n))) (4 * n) := by
  intro t
  have hsq : 2 * t * (2 * t) = 4 * (t * t) := by ring
  rw [le_sticky, sticky_le, Nat.le_sqrt, Nat.sqrt_lt, decide_eq_false_iff_not, not_not, hsq]
  refine ⟨by omega, fun h => ?_, fun h => ?_⟩
  · rcases h with h | ⟨rfl, h⟩ <;> omega
  · rcases Nat.lt_or_ge n (t * t) with hlt | hge
    · exact .inl hlt
    · obtain rfl : n = t * t := by omega
      exact .inr ⟨Nat.sqrt_eq t, by rw [Nat.sqrt_eq]⟩

theorem RootSide.eq_iff {s y : Nat} (h : RootSide s y) (t : Nat) : 2 * t = s ↔ 2 * t * (2 * t) = y := by
  obtain ⟨hle, hge⟩ := h t
  omega

/-! ### The bounds of the statement -/

/-- The root of `x` lies within one unit `u` of `v`, on the side that the mode says: the last part of `RootOf`. -/
def RootBounds (mode : BitVec 2) (v u x : Nat) : Prop :=
  match mode.toNat with
  | 0 => (2 * v - u) * (2 * v - u) ≤ 4 * x ∧ 4 * x ≤ (2 * v + u) * (2 * v + u)
  | 2 => (v - u) * (v - u) < x ∧ x ≤ v * v
  | _ => v * v ≤ x ∧ x < (v + u) * (v + u)

section
variable (v u x : Nat)

theorem rootBounds_nearest : RootBounds 0 v u x ↔
    (2 * v - u) * (2 * v - u) ≤ 4 * x ∧ 4 * x ≤ (2 * v + u) * (2 * v + u) := Iff.rfl

theorem rootBounds_toZero : RootBounds 1 v u x ↔ v * v ≤ x ∧ x < (v + u) * (v + u) := Iff.rfl

theorem rootBounds_upward : RootBounds 2 v u x ↔ (v - u) * (v - u) < x ∧ x ≤ v * v := Iff.rfl

theorem rootBounds_downward : RootBounds 3 v u x ↔ v * v ≤ x ∧ x < (v + u) * (v + u) := Iff.rfl

end

/-- Rounding `s` to a multiple `q` of `4 * g` bounds the root by even integers on either side. -/
theorem RootSide.rootBounds {mode : BitVec 2} {s y g q : Nat} (h : RootSide s y) (hq : 0 < q)
    (hr : Rounded mode false s (4 * g) q) : RootBounds mode (q * (4 * g)) (4 * g) y := by
  obtain ⟨p, rfl⟩ : ∃ p, q = p + 1 := ⟨q - 1, by omega⟩
  have hv : (p + 1) * (4 * g) = 2 * (2 * g * p + 2 * g) := by ring
  have hvalue := h (2 * g * p + 2 * g)
  have hbelow := h (2 * g * p)
  have habove := h (2 * g * p + 4 * g)
  have hhalfBelow := h (2 * g * p + g)
  have hhalfAbove := h (2 * g * p + 3 * g)
  have hsub : 2 * (2 * g * p + 2 * g) - 4 * g = 2 * (2 * g * p) := by omega
  have hadd : 2 * (2 * g * p + 2 * g) + 4 * g = 2 * (2 * g * p + 4 * g) := by ring
  rcases mode_cases mode with rfl | rfl | rfl | rfl
  · rw [rounded_nearest, hv] at hr
    rw [rootBounds_nearest, hv]
    have hlow : 2 * (2 * (2 * g * p + 2 * g)) - 4 * g = 2 * (2 * (2 * g * p + g)) := by omega
    have hhigh : 2 * (2 * (2 * g * p + 2 * g)) + 4 * g = 2 * (2 * (2 * g * p + 3 * g)) := by omega
    have hsq (z : Nat) : 2 * z * (2 * z) = 4 * (z * z) := by ring
    rw [hlow, hhigh, hsq (2 * _), hsq (2 * _)]
    omega
  · rw [rounded_toZero, hv] at hr
    rw [rootBounds_toZero, hv, hadd]
    omega
  · rw [rounded_upward, hv] at hr
    rw [rootBounds_upward, hv, hsub]
    simp only [Bool.false_eq_true, if_false] at hr
    omega
  · rw [rounded_downward, hv] at hr
    rw [rootBounds_downward, hv, hadd]
    simp only [Bool.false_eq_true, if_false] at hr
    omega

/-- In a unit `P` times as small. -/
theorem RootBounds.scale {mode : BitVec 2} {v u x P : Nat} (h : RootBounds mode v u x) (hP : 0 < P) :
    RootBounds mode (v * P) (u * P) (x * (P * P)) := by
  have hPP : 0 < P * P := Nat.mul_pos hP hP
  have hsq (z : Nat) : z * P * (z * P) = z * z * (P * P) := by ring
  rcases mode_cases mode with rfl | rfl | rfl | rfl
  · rw [rootBounds_nearest] at h ⊢
    rw [← Nat.mul_assoc, ← Nat.sub_mul, ← Nat.add_mul, hsq, hsq, ← Nat.mul_assoc 4 x]
    exact ⟨Nat.mul_le_mul_right _ h.1, Nat.mul_le_mul_right _ h.2⟩
  · rw [rootBounds_toZero] at h ⊢
    rw [← Nat.add_mul, hsq, hsq]
    exact ⟨Nat.mul_le_mul_right _ h.1, Nat.mul_lt_mul_of_pos_right h.2 hPP⟩
  · rw [rootBounds_upward] at h ⊢
    rw [← Nat.sub_mul, hsq, hsq]
    exact ⟨Nat.mul_lt_mul_of_pos_right h.1 hPP, Nat.mul_le_mul_right _ h.2⟩
  · rw [rootBounds_downward] at h ⊢
    rw [← Nat.add_mul, hsq, hsq]
    exact ⟨Nat.mul_le_mul_right _ h.1, Nat.mul_lt_mul_of_pos_right h.2 hPP⟩

/-- A wider unit bounds less. -/
theorem RootBounds.widen {mode : BitVec 2} {v u u' x : Nat} (h : RootBounds mode v u x) (hu : u ≤ u') :
    RootBounds mode v u' x := by
  have hsq {y z : Nat} (hyz : y ≤ z) : y * y ≤ z * z := Nat.mul_le_mul hyz hyz
  rcases mode_cases mode with rfl | rfl | rfl | rfl
  · rw [rootBounds_nearest] at h ⊢
    exact ⟨(hsq (by omega)).trans h.1, h.2.trans (hsq (by omega))⟩
  · rw [rootBounds_toZero] at h ⊢
    exact ⟨h.1, h.2.trans_le (hsq (by omega))⟩
  · rw [rootBounds_upward] at h ⊢
    exact ⟨(hsq (by omega)).trans_lt h.1, h.2⟩
  · rw [rootBounds_downward] at h ⊢
    exact ⟨h.1, h.2.trans_le (hsq (by omega))⟩

/-! ### The unit of a single -/

theorem isInf_eq_false_of_magnitude_lt {w : Word} (h : fpMagnitude w < 2 ^ 23 * 2 ^ 254) : isInf w = false := by
  rw [Bool.eq_false_iff]
  intro hinf
  have he := fExp_of_isInf hinf
  have hm := le_mant (a := w) (by omega)
  rw [fpMagnitude_eq, he] at h
  exact h.not_ge (Nat.mul_le_mul_right _ hm)

/-- A single of at least 24 bits in units of `2 ^ k` has no smaller unit than that. -/
theorem unit_le {w : Word} {q k : Nat} (h : fpMagnitude w = q * 2 ^ k) (hq : 2 ^ 23 ≤ q) :
    2 ^ k ≤ 2 ^ (fExp w - 1) := by
  have hm := mant_lt w
  rw [fpMagnitude_eq] at h
  refine Nat.pow_le_pow_right Nat.two_pos (Nat.lt_succ_iff.1 ((Nat.pow_lt_pow_iff_right (a := 2) (by decide)).1 ?_))
  refine Nat.lt_of_mul_lt_mul_left (a := 2 ^ 23) ?_
  calc 2 ^ 23 * 2 ^ k ≤ q * 2 ^ k := Nat.mul_le_mul_right _ hq
    _ = mant w * 2 ^ (fExp w - 1) := h.symm
    _ < 2 ^ 24 * 2 ^ (fExp w - 1) := Nat.mul_lt_mul_of_pos_right hm (Nat.two_pow_pos _)
    _ = 2 ^ 23 * 2 ^ (fExp w - 1 + 1) := by ring

/-! ### The rounded root -/

theorem two_pow_277 : 2 ^ 277 = 2 ^ 23 * 2 ^ 254 := by rw [show 277 = 23 + 254 from rfl, Nat.pow_add]

theorem mul_two_pow_in_range {q w : Nat} (hq : q ≤ 2 ^ 24) (hw : w < 253) : q * 2 ^ w < 2 ^ 23 * 2 ^ 254 :=
  calc q * 2 ^ w ≤ 2 ^ 24 * 2 ^ w := Nat.mul_le_mul_right _ hq
    _ < 2 ^ 24 * 2 ^ 253 := Nat.mul_lt_mul_of_pos_left (Nat.pow_lt_pow_right (by decide) hw) (by decide)
    _ = 2 ^ 23 * 2 ^ 254 := by rw [Nat.pow_succ 2 23, Nat.mul_assoc, Nat.pow_succ' (m := 2) (n := 253)]

/-- An integer `s` in units of `2 ^ p` that is far from overflow: the single is a multiple `q` of the unit `2 ^ i` that
leaves 24 bits of `s`. -/
theorem RoundsTo.finite {mode : BitVec 2} {neg : Bool} {s p i : Nat} {r : FpOut} (hr : RoundsTo mode neg (s * 2 ^ p) 1 r)
    (hlo : 2 ^ 23 * 2 ^ i ≤ s) (hhi : s < 2 ^ 24 * 2 ^ i) (hrange : i + p < 253) :
    ∃ q, 2 ^ 23 ≤ q ∧ q ≤ 2 ^ 24 ∧ Rounded mode neg s (2 ^ i) q ∧ fpMagnitude r.value = q * 2 ^ (i + p)
      ∧ r.value.getLsbD 31 = neg ∧ r.flags = if q * 2 ^ i = s then 0 else 0x02 := by
  have hp : 0 < 2 ^ p := Nat.two_pow_pos p
  have hunit (j : Nat) : 2 ^ (j + (i + p)) * 1 = 2 ^ j * 2 ^ i * 2 ^ p := by ring
  obtain ⟨q, hq, hsingle⟩ := hr.2 (i + p) (by rw [hunit]; exact Nat.mul_le_mul_right _ hlo)
    (by rw [hunit]; exact Nat.mul_lt_mul_of_pos_right hhi hp)
  rw [Nat.one_mul, Nat.pow_add] at hq
  have hrounded := (rounded_scale mode neg s (2 ^ i) q hp).1 hq
  obtain ⟨hq23, hq24⟩ := rounded_bounds hrounded hlo hhi
  have hfin := mul_two_pow_in_range hq24 hrange
  rw [← two_pow_277] at hfin
  have hexact : q * (1 * 2 ^ (i + p)) = s * 2 ^ p ↔ q * 2 ^ i = s := by
    rw [Nat.one_mul, Nat.pow_add, ← Nat.mul_assoc, Nat.mul_left_inj hp.ne']
  generalize 2 ^ 277 = limit at hfin hsingle
  rw [if_pos hfin, if_congr hexact rfl rfl] at hsingle
  obtain ⟨hmag, hsign, hflags⟩ := hsingle
  exact ⟨q, hq23, hq24, hrounded, hmag, hsign, hflags⟩

/-- The unit `2 ^ (2 + i)` that a number of 28 or 29 bits is rounded to. -/
theorem exists_rootUnit {s : Nat} (hlo : 2 ^ 27 ≤ s) (hhi : s < 2 ^ 29) :
    ∃ i, i ≤ 3 ∧ 2 ^ 23 * 2 ^ (2 + i) ≤ s ∧ s < 2 ^ 24 * 2 ^ (2 + i) := by
  rcases Nat.lt_or_ge s (2 ^ 28) with h | h
  · exact ⟨2, by omega⟩
  · exact ⟨3, by omega⟩

/-- A number of 28 or 29 bits, in units of `2 ^ p`, that lies to the even integers as the root of `y` does: its single is
within the bounds of the root of `y * 2 ^ (2 * p)`, and no infinity. -/
theorem RoundsTo.root {mode : BitVec 2} {s p y : Nat} {r : FpOut} (hr : RoundsTo mode false (s * 2 ^ p) 1 r)
    (hlo : 2 ^ 27 ≤ s) (hhi : s < 2 ^ 29) (hp : p ≤ 200) (h : RootSide s y) :
    let v := fpMagnitude r.value
    let x := y * (2 ^ p * 2 ^ p)
    r.value.getLsbD 31 = false ∧ 0 < v ∧ isInf r.value = false ∧ r.flags = (if v * v = x then 0 else 0x02)
    ∧ RootBounds mode v (2 ^ (fExp r.value - 1)) x := by
  intro v x
  have hpp : 0 < 2 ^ p := Nat.two_pow_pos p
  obtain ⟨i, hi, hslo, hshi⟩ := exists_rootUnit hlo hhi
  obtain ⟨q, hq23, hq24, hrounded, hmag, hsign, hflags⟩ := hr.finite hslo hshi (by omega)
  have hgrid : 2 ^ (2 + i) = 4 * 2 ^ i := by ring
  have hv : v = q * (4 * 2 ^ i) * 2 ^ p := by rw [← hgrid, Nat.mul_assoc, ← Nat.pow_add]; exact hmag
  have hexact : q * 2 ^ (2 + i) = s ↔ v * v = x := by
    have heven : q * (4 * 2 ^ i) = 2 * (2 * 2 ^ i * q) := by ring
    rw [hv, hgrid, heven, h.eq_iff, Nat.mul_mul_mul_comm (2 * _) (2 ^ p), Nat.mul_left_inj (Nat.mul_pos hpp hpp).ne']
  have hunit : 4 * 2 ^ i * 2 ^ p ≤ 2 ^ (fExp r.value - 1) := by
    rw [← hgrid, ← Nat.pow_add]
    exact unit_le hmag hq23
  refine ⟨hsign, ?_, isInf_eq_false_of_magnitude_lt ?_, hflags.trans (if_congr hexact rfl rfl), ?_⟩
  · exact (Nat.mul_pos (Nat.lt_of_lt_of_le (by decide) hq23) (Nat.two_pow_pos _)).trans_eq hmag.symm
  · exact hmag.trans_lt (mul_two_pow_in_range hq24 (by omega))
  · rw [hgrid] at hrounded
    rw [hv]
    exact ((h.rootBounds (by omega) hrounded).scale hpp).widen hunit

/-! ### Roots -/

/-- The shift that makes the exponent of a root's operand even. -/
def rootShift (a : Word) : Nat := if expo a % 2 = 0 then 30 else 31

theorem rootShift_bounds (a : Word) :
    (rootShift a = 30 ∨ rootShift a = 31) ∧ (expo a - rootShift a) % 2 = 0 := by
  unfold rootShift
  split <;> omega

theorem rootOperand_bounds {a : Word} (h : fExp a ≠ 0) :
    2 ^ 53 ≤ mant a * 2 ^ rootShift a ∧ mant a * 2 ^ rootShift a < 2 ^ 56 := by
  have hlo := le_mant h
  have hhi := mant_lt a
  rcases (rootShift_bounds a).1 with hk | hk
  · rw [hk]; omega
  · rw [hk]; omega

/-- The number whose integer root the model takes is the operand in units of an even power of two. -/
theorem root_scaled {a : Word} (h : fExp a ≠ 0) : ∃ p : Nat, p ≤ 200 ∧ (expo a - rootShift a) / 2 - 1 + 149 = p ∧
    fpMagnitude a * 2 ^ 149 = 4 * (mant a * 2 ^ rootShift a) * (2 ^ p * 2 ^ p) := by
  obtain ⟨hk, heven⟩ := rootShift_bounds a
  have hlt := fExp_lt a
  unfold expo at heven ⊢
  obtain ⟨p, hp⟩ : ∃ p : Nat, ((fExp a : Int) - 150 - rootShift a) / 2 + 148 = p := Int.eq_ofNat_of_zero_le (by omega)
  refine ⟨p, by omega, by omega, ?_⟩
  have hexp : fExp a - 1 + 149 = 2 + rootShift a + p + p := by omega
  calc fpMagnitude a * 2 ^ 149 = mant a * 2 ^ (fExp a - 1 + 149) := by rw [fpMagnitude_eq]; ring
    _ = mant a * 2 ^ (2 + rootShift a + p + p) := by rw [hexp]
    _ = 4 * (mant a * 2 ^ rootShift a) * (2 ^ p * 2 ^ p) := by ring

/-- The model's root of a positive number, as a sticky integer root. -/
theorem sqrtCore_of_positive (mode : BitVec 2) {a : Word} (h0 : fExp a ≠ 0) (hs : fSign a = false)
    (hi : isInf a = false) : sqrtCore mode a =
      let n := mant a * 2 ^ rootShift a
      roundPack mode false (sticky (Nat.sqrt n) (decide (Nat.sqrt n * Nat.sqrt n ≠ n)))
        ((expo a - rootShift a) / 2 - 1) := by
  have hz : isZero a = false := by simp [isZero, h0]
  unfold sqrtCore
  dsimp only
  rw [if_neg (by simp [hz]), if_neg (by simp [hs]), if_neg (by simp [hi]),
    ← isqrt_eq_sqrt (rootOperand_bounds h0).2]
  rfl

theorem sqrtCore_positive_rootOf (mode : BitVec 2) {a : Word} (h0 : fExp a ≠ 0) (hs : fSign a = false)
    (hi : isInf a = false) :
    let r := sqrtCore mode a
    let v := fpMagnitude r.value
    let x := fpMagnitude a * 2 ^ 149
    r.value.getLsbD 31 = false ∧ 0 < v ∧ isInf r.value = false ∧ r.flags = (if v * v = x then 0 else 0x02)
    ∧ RootBounds mode v (2 ^ (fExp r.value - 1)) x := by
  obtain ⟨hnlo, hnhi⟩ := rootOperand_bounds h0
  obtain ⟨p, hp, he, hx⟩ := root_scaled h0
  rw [sqrtCore_of_positive mode h0 hs hi, hx]
  dsimp only
  generalize mant a * 2 ^ rootShift a = n at hnlo hnhi
  have hlo : 2 ^ 26 ≤ Nat.sqrt n := Nat.le_sqrt.2 (by omega)
  have hhi : Nat.sqrt n < 2 ^ 28 := Nat.sqrt_lt.2 (by omega)
  have hslo := (le_sticky _ (2 ^ 26) (decide (Nat.sqrt n * Nat.sqrt n ≠ n))).2 hlo
  have hshi := mt (le_sticky _ (2 ^ 28) (decide (Nat.sqrt n * Nat.sqrt n ≠ n))).1 hhi.not_ge
  have hr := roundPack_roundsTo mode false ((expo a - rootShift a) / 2 - 1) (Nat.lt_of_lt_of_le (by decide) hslo)
  rw [he, Int.toNat_natCast, Int.toNat_neg_natCast, Nat.pow_zero] at hr
  exact hr.root hslo (not_le.1 hshi) hp (sticky_rootSide n)

theorem sqrtCore_rootOf (mode : BitVec 2) (a : Word) : RootOf mode a (sqrtCore mode (ftz a)) := by
  unfold RootOf
  rw [← show fSign a = a.getLsbD 31 from rfl]
  split
  next h0 =>
    rw [sqrtCore, if_pos ((isZero_ftz a).2 h0), ftz_of_fExp_eq_zero (fpMagnitude_eq_zero.1 h0)]
  next h0 =>
    have hz := mt (isZero_ftz a).1 h0
    rw [fpMagnitude_eq_zero] at h0
    rw [ftz_of_fExp_ne_zero h0] at hz ⊢
    split
    next hs => rw [sqrtCore, if_neg hz, if_pos hs]; rfl
    next hs =>
      split
      next hi => rw [sqrtCore, if_neg hz, if_neg hs, if_pos hi]
      next hi => exact sqrtCore_positive_rootOf mode h0 (Bool.eq_false_of_not_eq_true hs) (Bool.eq_false_of_not_eq_true hi)

end Sys2Proof.Machine
end

section
/-! SUPPORT. The statement about the operands of the arithmetic (R361 to R364), from the sections above. -/
namespace Sys2Proof.Machine

/-- What every operation of two operands does with NaN and denormalized ones (R361, R363), where it sets no IFZ itself. -/
theorem fpBinary_specialOperands {f : Word → Word → FpOut} (hf : ∀ x y, (f x y).flags.getLsbD 5 = false) (a b : Word) :
    let r := fpBinary f
    (isNaN a = true → (r a b).value = a ||| 0x00400000)
    ∧ (isNaN a = false → isNaN b = true → (r a b).value = b ||| 0x00400000)
    ∧ (isNaN a = true ∨ isNaN b = true → ((r a b).flags.getLsbD 4 = true ↔ isSNaN a = true ∨ isSNaN b = true))
    ∧ (isDenorm a = true → (r a b).flags.getLsbD 5 = true ∧ (r a b).value = (r (a &&& 0x80000000) b).value)
    ∧ (isDenorm b = true → (r a b).flags.getLsbD 5 = true ∧ (r a b).value = (r a (b &&& 0x80000000)).value)
    ∧ (isDenorm a = false → isDenorm b = false → (r a b).flags.getLsbD 5 = false) := by
  intro r
  have hifz : (r a b).flags.getLsbD 5 = (isDenorm a || isDenorm b) := fpBinary_ifz hf
  refine ⟨fpBinary_value_nan_left, fpBinary_value_nan_right, fpBinary_inv_of_nan, fun h => ?_, fun h => ?_,
    fun ha hb => ?_⟩
  · exact ⟨by rw [hifz, h, Bool.true_or], fpBinary_value_denorm_left h⟩
  · exact ⟨by rw [hifz, h, Bool.or_true], fpBinary_value_denorm_right h⟩
  · rw [hifz, ha, hb, Bool.or_false]

/-- A subtraction adds the second operand with the other sign. -/
theorem fpSub_sumOf (mode : BitVec 2) {a b : Word} (ha : isNaN a = false) (hb : isNaN b = false) :
    SumOf mode a (b ^^^ 0x80000000) (fpSub mode a b).noIfz := by
  rw [fpSub, fpBinary_noIfz (fun _ _ => addCore_ifz ..) ha hb, ftz_xor_signBit]
  exact addCore_sumOf mode a (b ^^^ 0x80000000)

/-- Settles O58: NaN and denormalized operands by what `fpBinary` does with them for each of the four operations; sums,
products, quotients and roots of numbers by the operation on the flushed operands, which sets no IFZ. -/
theorem floatSpecialOperands : Obligations.FloatSpecialOperands := by
  intro mode a b
  refine ⟨fun f hf => ?special, fun ha hb => ⟨?sum, fpSub_sumOf mode ha hb, ?product, ?quotient⟩, fpSqrt_of_nan mode,
    fun ha => ⟨?root, ?rootIfz⟩⟩
  case special =>
    simp only [List.mem_cons, List.not_mem_nil, or_false] at hf
    obtain rfl | rfl | rfl | rfl := hf
    · exact fpBinary_specialOperands (addCore_ifz mode) a b
    · exact fpBinary_specialOperands (fun _ _ => addCore_ifz ..) a b
    · exact fpBinary_specialOperands (mulCore_ifz mode) a b
    · exact fpBinary_specialOperands (divCore_ifz mode) a b
  case sum =>
    rw [fpAdd, fpBinary_noIfz (addCore_ifz mode) ha hb]
    exact addCore_sumOf mode a b
  case product =>
    rw [fpMul, fpBinary_noIfz (mulCore_ifz mode) ha hb]
    exact mulCore_productOf mode a b
  case quotient =>
    rw [fpDiv, fpBinary_noIfz (divCore_ifz mode) ha hb]
    exact divCore_quotientOf mode a b
  case root =>
    rw [fpSqrt_noIfz mode ha]
    exact sqrtCore_rootOf mode a
  case rootIfz => rw [fpSqrt_ifz mode ha]

end Sys2Proof.Machine
end

section
/-! SUPPORT. Conversions and comparisons at their issue (R390 to R409, R420 to R434). -/
namespace Sys2Proof.Machine

/-- Settles O56: every operation here is `issueFloat` of its unit, and its flags form `issueValue` of the flags. -/
theorem floatConversionsAndComparisonsComplete : Obligations.FloatConversionsAndComparisonsComplete := by
  intro g s1 s2 d s a b mode
  have falu {i r} (h : exec i s = issueFloat .falu g d r s) := deliversFloat_issueFloat h rfl
  have faluFlags {i v} (h : exec i s = issueValue .falu g d v s) := delivers_issueValue h rfl rfl
  have fcomp {i r} (h : exec i s = issueFloat .fcomp g d r s) := deliversFloat_issueFloat h rfl
  have fcompFlags {i v} (h : exec i s = issueValue .fcomp g d v s) := delivers_issueValue h rfl rfl
  refine ⟨?ifixieee, ?ifixieeeflags, ?ifixrz, ?ifixrzflags, ?ufixieee, ?ufixieeeflags, ?ufixrz, ?ufixrzflags,
    ?ifloat, ?ifloatflags, ?ifloatrz, ?ifloatrzflags, ?ufloat, ?ufloatflags, ?ufloatrz, ?ufloatrzflags,
    ?feql, ?feqlflags, ?fneq, ?fneqflags, ?fgtr, ?fgtrflags, ?fgeq, ?fgeqflags, ?fles, ?flesflags, ?fleq, ?fleqflags⟩
  case ifixieee | ifixrz | ufixieee | ufixrz | ifloat | ifloatrz | ufloat | ufloatrz => exact falu rfl
  case ifixieeeflags | ifixrzflags | ufixieeeflags | ufixrzflags | ifloatflags | ifloatrzflags | ufloatflags
    | ufloatrzflags => exact faluFlags rfl
  case feql | fneq | fgtr | fgeq | fles | fleq => exact fcomp rfl
  case feqlflags | fneqflags | fgtrflags | fgeqflags | flesflags | fleqflags => exact fcompFlags rfl

end Sys2Proof.Machine
end

section
/-! SUPPORT. Conversions of numbers (R391, R392): the integer that the model rounds to is the exact value rounded, and where
that lies beyond the range is read off the exponent; with fabsval and fsign (R366, R374). -/
namespace Sys2Proof.Machine

/-! ### Rounding to an integer -/

/-- The rounded quotient is exact where the quotient is an integer. -/
theorem Rounded.eq_of_multiple {mode : BitVec 2} {neg : Bool} {n d q : Nat} (h : Rounded mode neg (n * d) d q) :
    q = n := by
  obtain ⟨habove, hbelow, -⟩ := h
  rw [← Nat.succ_mul] at habove hbelow
  exact Nat.le_antisymm (Nat.lt_succ_iff.1 (Nat.lt_of_mul_lt_mul_right habove))
    (Nat.lt_succ_iff.1 (Nat.lt_of_mul_lt_mul_right hbelow))

/-- Rounding toward zero is the floor quotient of the magnitude. -/
theorem Rounded.eq_div {neg : Bool} {n d q : Nat} (h : Rounded 1 neg n d q) : q = n / d := by
  obtain ⟨-, hbelow, hle⟩ := (rounded_toZero ..).1 h
  exact (Nat.div_eq_of_lt_le hle (by rwa [Nat.succ_mul])).symm

/-- The integer that `fpFix` rounds a number to, and whether that is inexact. -/
theorem roundTo_fix (mode : BitVec 2) (a : Word) :
    let r := roundTo mode (fSign a) (mant a) (expo a) 0
    Rounded mode (fSign a) (fpMagnitude a) (2 ^ 149) r.1 ∧ (r.2 = true ↔ r.1 * 2 ^ 149 ≠ fpMagnitude a) := by
  intro r
  have hscaled := mant_scaled a (Int.le_refl (expo a))
  rw [Int.sub_self, Int.toNat_zero, Nat.pow_zero, Nat.mul_one] at hscaled
  have hpos := Nat.two_pow_pos (-(expo a + 149)).toNat
  obtain ⟨hr, hx⟩ := roundTo_rounded mode (fSign a) (mant a) 149 (expo a) 0 rfl
  rw [hscaled, Nat.mul_comm (2 ^ _) (2 ^ 149)] at hr hx
  rw [← Nat.mul_assoc, Ne, Nat.mul_left_inj hpos.ne'] at hx
  exact ⟨(rounded_scale mode _ _ _ _ hpos).1 hr, hx⟩

/-! ### The magnitude as a multiple of 1 -/

/-- From exponent 150 on a number is an integer. -/
theorem fpMagnitude_of_integer {a : Word} (h : 150 ≤ fExp a) :
    fpMagnitude a = mant a * 2 ^ (fExp a - 150) * 2 ^ 149 := by
  rw [fpMagnitude_eq, Nat.mul_assoc, ← Nat.pow_add, show fExp a - 150 + 149 = fExp a - 1 by omega]

/-- The integer part of a normalized number. -/
theorem fpMagnitude_div {a : Word} (h : fExp a ≠ 0) : fpMagnitude a / 2 ^ 149 =
    if 150 ≤ fExp a then (2 ^ 23 + fFrac a) * 2 ^ (fExp a - 150) else (2 ^ 23 + fFrac a) / 2 ^ (150 - fExp a) := by
  have hm : mant a = 2 ^ 23 + fFrac a := if_neg h
  split
  next hint => rw [fpMagnitude_of_integer hint, Nat.mul_div_cancel _ (Nat.two_pow_pos _), hm]
  next hfrac =>
    rw [fpMagnitude_eq, hm, show 149 = 150 - fExp a + (fExp a - 1) by omega, Nat.pow_add,
      Nat.mul_div_mul_right _ _ (Nat.two_pow_pos _)]

/-- Below exponent 158 the integer part has 31 bits. -/
theorem fpMagnitude_div_lt {a : Word} (h : fExp a < 158) : fpMagnitude a / 2 ^ 149 < 2 ^ 31 := by
  rw [Nat.div_lt_iff_lt_mul (Nat.two_pow_pos _), fpMagnitude_eq]
  calc mant a * 2 ^ (fExp a - 1) < 2 ^ 24 * 2 ^ (fExp a - 1) := Nat.mul_lt_mul_of_pos_right (mant_lt a) (Nat.two_pow_pos _)
    _ ≤ 2 ^ 24 * 2 ^ (7 + 149) := Nat.mul_le_mul_left _ (Nat.pow_le_pow_right Nat.two_pos (by omega))
    _ = 2 ^ 31 * 2 ^ 149 := by rw [Nat.pow_add, ← Nat.mul_assoc, ← Nat.pow_add]

/-- From exponent 158 on a number is an integer of more than 31 bits; the least of them, 2^31 itself, has one spelling
for each sign. -/
theorem exists_large_integer {a : Word} (h : 158 ≤ fExp a) :
    ∃ n, fpMagnitude a = n * 2 ^ 149 ∧ 2 ^ 31 ≤ n ∧ (n = 2 ^ 31 → fExp a = 158 ∧ fFrac a = 0) := by
  have hm : mant a = 2 ^ 23 + fFrac a := if_neg (by omega)
  refine ⟨_, fpMagnitude_of_integer (by omega), ?_, fun heq => ?_⟩
  · calc 2 ^ 31 = 2 ^ 23 * 2 ^ 8 := Nat.pow_add 2 23 8
      _ ≤ mant a * 2 ^ (fExp a - 150) :=
        Nat.mul_le_mul (le_mant (by omega)) (Nat.pow_le_pow_right Nat.two_pos (by omega))
  · rcases h.eq_or_lt with he | he
    · rw [← he, hm] at heq
      exact ⟨he.symm, by omega⟩
    · have hbig : 2 ^ 23 * 2 ^ 9 ≤ mant a * 2 ^ (fExp a - 150) :=
        Nat.mul_le_mul (le_mant (by omega)) (Nat.pow_le_pow_right Nat.two_pos (by omega))
      omega

theorem isInf_iff (a : Word) : isInf a = true ↔ fExp a = 255 ∧ fFrac a = 0 := by
  rw [isInf, Bool.and_eq_true, decide_eq_true_eq, decide_eq_true_eq]

/-- An infinity counts as 2^128. -/
theorem fpMagnitude_of_isInf {a : Word} (h : isInf a = true) : fpMagnitude a = 2 ^ 128 * 2 ^ 149 := by
  obtain ⟨he, hf⟩ := (isInf_iff a).1 h
  rw [fpMagnitude_of_integer (by omega), mant, if_neg (by omega), he, hf, Nat.add_zero, ← Nat.pow_add]

/-! ### To integers (R391) -/

theorem fpFix_of_nan (mode : BitVec 2) (lo hi : Int) {a : Word} (h : isNaN a = true) :
    fpFix mode lo hi a = ⟨0, 0x10⟩ := if_pos h

theorem isDenorm_iff (a : Word) : isDenorm a = true ↔ a.extractLsb' 23 8 = 0 ∧ a.extractLsb' 0 23 ≠ 0 := by
  rw [isDenorm, Bool.and_eq_true, decide_eq_true_eq, decide_eq_true_eq, fExp, fFrac]
  exact and_congr (BitVec.toNat_inj (y := 0#8)) (not_congr (BitVec.toNat_inj (y := 0#23)))

/-- The integer `v` between `lo` and `hi`, with the flags `inx`, or the end of the range beyond which it lies, with INV. -/
def fixClip (lo hi v : Int) (inx : Word) : FpOut :=
  if hi < v then ⟨BitVec.ofInt 32 hi, 0x10⟩ else if v < lo then ⟨BitVec.ofInt 32 lo, 0x10⟩ else ⟨BitVec.ofInt 32 v, inx⟩

theorem fixClip_above {lo hi v : Int} (inx : Word) (h : hi < v) : fixClip lo hi v inx = ⟨BitVec.ofInt 32 hi, 0x10⟩ :=
  if_pos h

theorem fixClip_below {lo hi v : Int} (inx : Word) (hhi : v ≤ hi) (hlo : v < lo) :
    fixClip lo hi v inx = ⟨BitVec.ofInt 32 lo, 0x10⟩ := by
  rw [fixClip, if_neg hhi.not_gt, if_pos hlo]

theorem fixClip_within {lo hi v : Int} (inx : Word) (hhi : v ≤ hi) (hlo : lo ≤ v) :
    fixClip lo hi v inx = ⟨BitVec.ofInt 32 v, inx⟩ := by
  rw [fixClip, if_neg hhi.not_gt, if_neg hlo.not_gt]

theorem fixesTo_iff (mode : BitVec 2) (lo hi : Int) {a : Word} (r : FpOut) (h : isDenorm a = false) :
    FixesTo mode lo hi a r ↔ ∃ q, Rounded mode (fSign a) (fpMagnitude a) (2 ^ 149) q ∧
      r = fixClip lo hi (if fSign a then -(q : Int) else q) (if q * 2 ^ 149 = fpMagnitude a then 0 else 0x02) := by
  rw [FixesTo, if_neg (mt (isDenorm_iff a).2 (by simp [h]))]
  rfl

/-- A finite number is rounded and then clipped. -/
theorem fpFix_of_finite (mode : BitVec 2) (lo hi : Int) {a : Word} (hn : isNaN a = false) (hd : isDenorm a = false)
    (hinf : isInf a = false) : fpFix mode lo hi a =
      let r := roundTo mode (fSign a) (mant a) (expo a) 0
      fixClip lo hi (if fSign a then -(r.1 : Int) else r.1) (if r.2 then 0x02 else 0) := by
  unfold fpFix
  rw [if_neg (by simp [hn]), if_neg (by simp [hd]), if_neg (by simp [hinf]), roundTo, Int.zero_sub, Int.sub_zero,
    Nat.shiftLeft_eq]
  rfl

/-- An infinity goes to the end of the range on its side. -/
theorem fpFix_of_isInf (mode : BitVec 2) (lo hi : Int) {a : Word} (h : isInf a = true) :
    fpFix mode lo hi a = ⟨BitVec.ofInt 32 (if fSign a then lo else hi), 0x10⟩ := by
  obtain ⟨-, hf⟩ := (isInf_iff a).1 h
  have hn : isNaN a = false := by simp [isNaN, hf]
  have hd : isDenorm a = false := by simp [isDenorm, hf]
  unfold fpFix
  rw [if_neg (by simp [hn]), if_neg (by simp [hd]), if_pos h]
  rfl

/-- The conversion of a number is the one that `FixesTo` describes, for every range around 0 short of an infinity. -/
theorem fpFix_fixesTo (mode : BitVec 2) {lo hi : Int} {a : Word} (hn : isNaN a = false) (hlo : lo ≤ 0)
    (hlo' : -2 ^ 128 < lo) (hhi : 0 ≤ hi) (hhi' : hi < 2 ^ 128) : FixesTo mode lo hi a (fpFix mode lo hi a) := by
  cases hd : isDenorm a with
  | true =>
    rw [FixesTo, if_pos ((isDenorm_iff a).1 hd), fpFix, if_neg (by simp [hn]), if_pos hd]
    rfl
  | false =>
    obtain ⟨hr, hx⟩ := roundTo_fix mode a
    refine (fixesTo_iff mode lo hi _ hd).2 ⟨_, hr, ?_⟩
    cases hinf : isInf a with
    | true =>
      rw [fpFix_of_isInf mode lo hi hinf]
      rw [fpMagnitude_of_isInf hinf] at hr
      rw [hr.eq_of_multiple]
      split
      next => exact (fixClip_below _ (by omega) (by omega)).symm
      next => exact (fixClip_above _ (by omega)).symm
    | false =>
      rw [fpFix_of_finite mode lo hi hn hd hinf]
      dsimp only
      congr 1
      rw [if_congr hx rfl rfl, ite_not]

theorem fpToInt_fixesTo (mode : BitVec 2) {a : Word} (h : isNaN a = false) :
    FixesTo mode (-2 ^ 31) (2 ^ 31 - 1) a (fpToInt mode a) :=
  fpFix_fixesTo mode h (by decide) (by decide) (by decide) (by decide)

theorem fpToUInt_fixesTo (mode : BitVec 2) {a : Word} (h : isNaN a = false) :
    FixesTo mode 0 (2 ^ 32 - 1) a (fpToUInt mode a) :=
  fpFix_fixesTo mode h (by decide) (by decide) (by decide) (by decide)

theorem isDenorm_of_fExp_ne_zero {a : Word} (h : fExp a ≠ 0) : isDenorm a = false := by
  simp [isDenorm, h]

theorem isNaN_of_fExp_ne {a : Word} (h : fExp a ≠ 255) : isNaN a = false := by
  simp [isNaN, h]

/-- From exponent 158 on every number but -2^31 lies beyond the signed integers. -/
theorem fpToInt_of_large (mode : BitVec 2) {a : Word} (hn : isNaN a = false) (he : 158 ≤ fExp a) (ha : a ≠ 0xCF000000) :
    fpToInt mode a = ⟨if fSign a then 0x80000000 else 0x7FFFFFFF, 0x10⟩ := by
  obtain ⟨n, hmag, hn31, hleast⟩ := exists_large_integer he
  obtain ⟨q, hq, hr⟩ := (fixesTo_iff mode _ _ _ (isDenorm_of_fExp_ne_zero (by omega))).1 (fpToInt_fixesTo mode hn)
  rw [hmag] at hq
  rw [hr, hq.eq_of_multiple]
  cases hs : fSign a with
  | true =>
    have hne : n ≠ 2 ^ 31 := fun h => by
      obtain ⟨he, hf⟩ := hleast h
      exact ha (word_eq_of_fields hs he hf)
    exact fixClip_below _ (by rw [if_pos rfl]; omega) (by rw [if_pos rfl]; omega)
  | false => exact fixClip_above _ (by rw [if_neg Bool.false_ne_true]; omega)

/-- A normalized number below exponent 158 loses its fraction in the rz form, and nothing else. -/
theorem fpToInt_toZero {a : Word} (he : fExp a < 158) (h0 : fExp a ≠ 0) : (fpToInt 1 a).value.toInt =
    if fSign a then -((fpMagnitude a / 2 ^ 149 : Nat) : Int) else (fpMagnitude a / 2 ^ 149 : Nat) := by
  obtain ⟨q, hq, hr⟩ := (fixesTo_iff 1 _ _ _ (isDenorm_of_fExp_ne_zero h0)).1
    (fpToInt_fixesTo 1 (isNaN_of_fExp_ne (by omega)))
  have hlt := fpMagnitude_div_lt he
  rw [← hq.eq_div] at hlt ⊢
  obtain ⟨v, hv⟩ : ∃ v : Int, v = if fSign a then -(q : Int) else q := ⟨_, rfl⟩
  have hrange : -2 ^ 31 ≤ v ∧ v ≤ 2 ^ 31 - 1 := by
    rw [hv]
    split <;> omega
  rw [hr, ← hv, fixClip_within _ hrange.2 hrange.1]
  exact BitVec.toInt_ofInt_eq_self (by decide) hrange.1 (by omega)

/-! ### From integers (R392) -/

theorem fpFlt_roundsTo (mode : BitVec 2) {v : Int} (h : v ≠ 0) :
    RoundsTo mode (decide (v < 0)) (v.natAbs * 2 ^ 149) 1 (fpFlt mode v) := by
  rw [fpFlt, if_neg h]
  exact roundPack_roundsTo mode _ 0 (Int.natAbs_pos.2 h)

theorem fpOfInt_roundsTo (mode : BitVec 2) {a : Word} (h : a ≠ 0) :
    RoundsTo mode (decide (a.toInt < 0)) (a.toInt.natAbs * 2 ^ 149) 1 (fpOfInt mode a) :=
  fpFlt_roundsTo mode (mt (BitVec.toInt_inj (y := 0#32)).1 h)

theorem fpOfUInt_roundsTo (mode : BitVec 2) {a : Word} (h : a ≠ 0) :
    RoundsTo mode false (a.toNat * 2 ^ 149) 1 (fpOfUInt mode a) := by
  have hne : (a.toNat : Int) ≠ 0 := Int.natCast_ne_zero.2 (mt (BitVec.toNat_inj (y := 0#32)).1 h)
  have hr := fpFlt_roundsTo mode hne
  rw [decide_eq_false (Int.natCast_nonneg _).not_gt, Int.natAbs_natCast] at hr
  exact hr

/-! ### fabsval and fsign (R366, R374) -/

theorem and_allButSign (a : Word) : a &&& 0x7FFFFFFF = BitVec.ofNat 32 (a.toNat % 2 ^ 31) := by
  refine BitVec.eq_of_toNat_eq ?_
  rw [BitVec.toNat_and, BitVec.toNat_ofNat, Nat.mod_eq_of_lt (by omega)]
  exact Nat.and_two_pow_sub_one_eq_mod a.toNat 31

theorem fpAbs_eq (a : Word) : fpAbs a = if isNaN a then ⟨a ||| 0x00400000, if isSNaN a then 0x10 else 0⟩
    else if isDenorm a then ⟨0, 0x20⟩ else ⟨BitVec.ofNat 32 (a.toNat % 2 ^ 31), 0⟩ := by
  rw [fpAbs, and_allButSign, nanOut, ite_self, Bool.or_self]
  rfl

theorem isZero_iff {a : Word} (h : isDenorm a = false) : isZero a = true ↔ fpMagnitude a = 0 := by
  rw [← isZero_ftz, ftz, if_neg (by simp [h])]

theorem fpSign_eq (a : Word) : fpSign a = if isNaN a then ⟨0, 0x10⟩ else if isDenorm a then ⟨0, 0x20⟩
    else ⟨BitVec.ofInt 32 (fpScaled a).sign, 0⟩ := by
  unfold fpSign
  split
  next => rfl
  next =>
    split
    next => rfl
    next hd =>
      rw [if_congr (isZero_iff (Bool.eq_false_of_not_eq_true hd)) rfl rfl, fpScaled_eq]
      split
      next h0 => simp [h0]
      next h0 =>
        split
        next => rw [Int.sign_neg, Int.sign_natCast_of_ne_zero h0]; rfl
        next => rw [Int.sign_natCast_of_ne_zero h0]; rfl

/-- Settles O60: the range and the truncation by the exponent, every conversion by `fpFix_fixesTo` and
`fpFlt_roundsTo`, fabsval and fsign class by class. -/
theorem conversionTruncatesAndClips : Obligations.ConversionTruncatesAndClips := by
  intro a
  refine ⟨fpFix_of_nan 1 _ _, fun mode => fpToInt_of_large mode, fun he h0 => ?_,
    fun mode => ⟨fun h => ⟨fpFix_of_nan mode _ _ h, fpFix_of_nan mode _ _ h⟩,
      fun h => ⟨fpToInt_fixesTo mode h, fpToUInt_fixesTo mode h⟩⟩,
    fun mode => ⟨rfl, rfl, fun h => ⟨fpOfInt_roundsTo mode h, fpOfUInt_roundsTo mode h⟩⟩, fpAbs_eq a, fpSign_eq a⟩
  have hvalue := fpToInt_toZero he h0.ne'
  rw [← fpMagnitude_div h0.ne', hvalue, ← show fSign a = a.getLsbD 31 from rfl]
  generalize fpMagnitude a / 2 ^ 149 = n
  cases fSign a with
  | true => exact ⟨Int.natAbs_neg n, fun _ => rfl, fun h => absurd h (by simp)⟩
  | false => exact ⟨Int.natAbs_natCast n, fun h => absurd h (by simp), fun _ => rfl⟩

end Sys2Proof.Machine
end

section
/-! SUPPORT. Comparisons (R421, R422): the integers that the model compares are in the order of the numbers, so the outcome
of a comparison is read off the values; with its flags. -/
namespace Sys2Proof.Machine

/-! ### The order of the numbers -/

/-- The exponent and the fraction of a word after input flush, as one number. -/
def flushedBits (a : Word) : Nat := (ftz a).toNat % 2 ^ 31

theorem flushedBits_eq (a : Word) : flushedBits a = fExp a * 2 ^ 23 + if fExp a = 0 then 0 else fFrac a := by
  rw [← fFrac_ftz, ← fExp_ftz, fExp_eq, fFrac_eq, flushedBits]
  omega

theorem fpKey_eq (a : Word) :
    fpKey a = if fSign a then -((a.toNat % 2 ^ 31 : Nat) : Int) else (a.toNat % 2 ^ 31 : Nat) := by
  rw [fpKey, and_allButSign, uval, BitVec.toNat_ofNat, Nat.mod_eq_of_lt (by omega)]

theorem fpKey_ftz (a : Word) : fpKey (ftz a) = if fSign a then -(flushedBits a : Int) else flushedBits a := by
  rw [fpKey_eq, fSign_ftz]
  rfl

/-- A significand is below twice the least one of a normalized number, so the exponent decides first. -/
theorem fpMagnitude_lt_of_fExp_lt {a b : Word} (h : fExp a < fExp b) : fpMagnitude a < fpMagnitude b := by
  by_cases h0 : fExp a = 0
  · rw [fpMagnitude_eq_zero.2 h0]
    exact Nat.pos_of_ne_zero (mt fpMagnitude_eq_zero.1 (by omega))
  · rw [fpMagnitude_eq, fpMagnitude_eq]
    calc mant a * 2 ^ (fExp a - 1) < 2 ^ 24 * 2 ^ (fExp a - 1) :=
          Nat.mul_lt_mul_of_pos_right (mant_lt a) (Nat.two_pow_pos _)
      _ = 2 ^ 23 * 2 ^ fExp a := by rw [← Nat.pow_add, ← Nat.pow_add]; congr 1; omega
      _ ≤ mant b * 2 ^ (fExp b - 1) :=
          Nat.mul_le_mul (le_mant (by omega)) (Nat.pow_le_pow_right Nat.two_pos (by omega))

/-- Between normalized numbers of one exponent the fraction decides. -/
theorem fpMagnitude_lt_of_fFrac_lt {a b : Word} (he : fExp a = fExp b) (h0 : fExp b ≠ 0) (hf : fFrac a < fFrac b) :
    fpMagnitude a < fpMagnitude b := by
  rw [fpMagnitude_eq, fpMagnitude_eq, he, mant, mant, he, if_neg h0, if_neg h0]
  exact Nat.mul_lt_mul_of_pos_right (Nat.add_lt_add_left hf _) (Nat.two_pow_pos _)

theorem fpMagnitude_lt_of_flushedBits_lt {a b : Word} (h : flushedBits a < flushedBits b) :
    fpMagnitude a < fpMagnitude b := by
  rw [flushedBits_eq, flushedBits_eq] at h
  have ha := fFrac_lt a
  have hb := fFrac_lt b
  rcases lt_trichotomy (fExp a) (fExp b) with he | he | he
  · exact fpMagnitude_lt_of_fExp_lt he
  · exact fpMagnitude_lt_of_fFrac_lt he (by grind) (by grind)
  · grind

theorem fpMagnitude_eq_of_flushedBits_eq {a b : Word} (h : flushedBits a = flushedBits b) :
    fpMagnitude a = fpMagnitude b := by
  rw [flushedBits_eq, flushedBits_eq] at h
  have ha := fFrac_lt a
  have hb := fFrac_lt b
  have he : fExp a = fExp b := by grind
  by_cases h0 : fExp b = 0
  · rw [fpMagnitude_eq_zero.2 h0, fpMagnitude_eq_zero.2 (he.trans h0)]
  · have hf : fFrac a = fFrac b := by grind
    rw [fpMagnitude_eq, fpMagnitude_eq, mant, mant, he, hf]

theorem flushedBits_lt_iff (a b : Word) : flushedBits a < flushedBits b ↔ fpMagnitude a < fpMagnitude b := by
  refine ⟨fpMagnitude_lt_of_flushedBits_lt, fun h => ?_⟩
  rcases lt_trichotomy (flushedBits a) (flushedBits b) with hlt | heq | hgt
  · exact hlt
  · exact absurd (fpMagnitude_eq_of_flushedBits_eq heq) h.ne
  · exact absurd (fpMagnitude_lt_of_flushedBits_lt hgt) h.asymm

theorem flushedBits_eq_zero (a : Word) : flushedBits a = 0 ↔ fpMagnitude a = 0 := by
  rw [fpMagnitude_eq_zero, flushedBits_eq]
  split <;> omega

/-- What the model compares is in the order of the values. -/
theorem fpKey_lt_iff (a b : Word) : fpKey (ftz a) < fpKey (ftz b) ↔ fpScaled a < fpScaled b := by
  have hlt := flushedBits_lt_iff a b
  have hgt := flushedBits_lt_iff b a
  have ha := flushedBits_eq_zero a
  have hb := flushedBits_eq_zero b
  rw [fpKey_ftz, fpKey_ftz, fpScaled_eq, fpScaled_eq]
  split <;> split <;> omega

theorem fpKey_eq_iff (a b : Word) : fpKey (ftz a) = fpKey (ftz b) ↔ fpScaled a = fpScaled b := by
  have hlt := fpKey_lt_iff a b
  have hgt := fpKey_lt_iff b a
  omega

theorem fpScaled_lt_iff_fpKey {a b : Word} (ha : isDenorm a = false) (hb : isDenorm b = false) :
    fpScaled a < fpScaled b ↔ fpKey a < fpKey b := by
  rw [← fpKey_lt_iff, ftz, ftz, ha, hb]
  rfl

/-! ### The outcomes (R422 to R434) -/

theorem fpRel_of_nan {a b : Word} (h : isNaN a = true ∨ isNaN b = true) : fpRel a b = .un :=
  if_pos (Bool.or_eq_true_iff.2 h)

theorem fpRel_of_numbers {a b : Word} (ha : isNaN a = false) (hb : isNaN b = false) :
    fpRel a b = if fpScaled a < fpScaled b then .lt else if fpScaled a = fpScaled b then .eq else .gt := by
  rw [fpRel, ha, hb, if_congr (fpKey_lt_iff a b) rfl rfl, if_congr (fpKey_eq_iff a b) rfl rfl]
  rfl

section
variable {a b : Word} (ha : isNaN a = false) (hb : isNaN b = false)
include ha hb

theorem fpRel_eq_gt : fpRel a b = .gt ↔ fpScaled b < fpScaled a := by
  rw [fpRel_of_numbers ha hb]
  split
  next h => exact iff_of_false nofun h.asymm
  next hlt =>
    split
    next h => exact iff_of_false nofun h.not_gt
    next hne => exact iff_of_true rfl (by omega)

theorem fpRel_eq_eq : fpRel a b = .eq ↔ fpScaled a = fpScaled b := by
  rw [fpRel_of_numbers ha hb]
  split
  next h => exact iff_of_false nofun h.ne
  next =>
    split
    next h => exact iff_of_true rfl h
    next h => exact iff_of_false nofun h

theorem fpRel_ne_un : fpRel a b ≠ .un := by
  rw [fpRel_of_numbers ha hb]
  split
  · nofun
  · split <;> nofun

theorem fpGtr_value : (fpGtr a b).value = if fpScaled b < fpScaled a then 1 else 0 := by
  simp only [fpGtr, ofBool, decide_eq_true_eq, fpRel_eq_gt ha hb]

theorem fpEql_value : (fpEql a b).value = if fpScaled a = fpScaled b then 1 else 0 := by
  simp only [fpEql, ofBool, decide_eq_true_eq, fpRel_eq_eq ha hb]

theorem fpGeq_value : (fpGeq a b).value = if fpScaled b ≤ fpScaled a then 1 else 0 := by
  simp only [fpGeq, ofBool, Bool.or_eq_true, decide_eq_true_eq, fpRel_eq_gt ha hb, fpRel_eq_eq ha hb, le_iff_lt_or_eq']

theorem fpNeq_value : (fpNeq a b).value = if fpScaled a = fpScaled b then 0 else 1 := by
  simp only [fpNeq, if_neg (fpRel_ne_un ha hb), ofBool, decide_eq_true_eq, ne_eq, fpRel_eq_eq ha hb, ite_not]

/-- Of two numbers one is the greater or they are equal (R422). -/
theorem fpGtr_add_fpEql_add_fpGtr : (fpGtr a b).value + (fpEql a b).value + (fpGtr b a).value = 1 := by
  rw [fpGtr_value ha hb, fpEql_value ha hb, fpGtr_value hb ha]
  rcases lt_trichotomy (fpScaled a) (fpScaled b) with h | h | h
  · rw [if_neg h.asymm, if_neg h.ne, if_pos h]; rfl
  · rw [if_neg h.not_gt, if_pos h, if_neg h.not_lt]; rfl
  · rw [if_pos h, if_neg h.ne', if_neg h.asymm]; rfl

theorem fpGeq_eq_fpGtr_add_fpEql : (fpGeq a b).value = (fpGtr a b).value + (fpEql a b).value := by
  rw [fpGtr_value ha hb, fpEql_value ha hb, fpGeq_value ha hb]
  rcases lt_trichotomy (fpScaled a) (fpScaled b) with h | h | h
  · rw [if_neg h.not_ge, if_neg h.asymm, if_neg h.ne]; rfl
  · rw [if_pos h.ge, if_neg h.not_gt, if_pos h]; rfl
  · rw [if_pos h.le, if_pos h, if_neg h.ne']; rfl

theorem fpNeq_add_fpEql : (fpNeq a b).value + (fpEql a b).value = 1 := by
  rw [fpNeq_value ha hb, fpEql_value ha hb]
  split <;> rfl

/-- Numbers that are not denormalized compare as their words do, taken as sign and magnitude. -/
theorem fpGtr_iff_fpKey (hda : isDenorm a = false) (hdb : isDenorm b = false) :
    (fpGtr a b).value = 1 ↔ fpKey b < fpKey a := by
  rw [fpGtr_value ha hb, ← fpScaled_lt_iff_fpKey hdb hda]
  exact ite_eq_left_iff.trans (not_imp_comm.trans (imp_iff_right (by decide)))

theorem fpGtr_positive (hda : isDenorm a = false) (hdb : isDenorm b = false) (hsa : fSign a = false)
    (hsb : fSign b = false) : (fpGtr a b).value = 1 ↔ b < a := by
  rw [fpGtr_iff_fpKey ha hb hda hdb, fpKey_eq, fpKey_eq, hsa, hsb, BitVec.lt_def]
  simp only [fSign_eq, decide_eq_false_iff_not] at hsa hsb
  simp only [Bool.false_eq_true, if_false]
  omega

theorem fpGtr_negative (hda : isDenorm a = false) (hdb : isDenorm b = false) (hsa : fSign a = true)
    (hsb : fSign b = true) : (fpGtr a b).value = 1 ↔ a < b := by
  rw [fpGtr_iff_fpKey ha hb hda hdb, fpKey_eq, fpKey_eq, hsa, hsb, BitVec.lt_def]
  simp only [fSign_eq, decide_eq_true_eq] at hsa hsb
  simp only [if_true]
  omega

/-- A positive number is the greater of one of each sign, +0 against -0 excepted. -/
theorem fpGtr_positive_negative (hda : isDenorm a = false) (hdb : isDenorm b = false) (hsa : fSign a = false)
    (hsb : fSign b = true) : (fpGtr a b).value = 1 ↔ ¬(a = 0 ∧ b = 0x80000000) := by
  have hzero : a = 0 ↔ a.toNat = 0 := (BitVec.toNat_inj (y := 0#32)).symm
  have hnegZero : b = 0x80000000 ↔ b.toNat = 2 ^ 31 := (BitVec.toNat_inj (y := 0x80000000#32)).symm
  rw [fpGtr_iff_fpKey ha hb hda hdb, fpKey_eq, fpKey_eq, hsa, hsb, hzero, hnegZero]
  simp only [fSign_eq, decide_eq_true_eq, decide_eq_false_iff_not] at hsa hsb
  simp only [Bool.false_eq_true, if_false, if_true]
  omega

end

/-- No comparison holds with a NaN (R421, R422), fneq as D18 has it. -/
theorem comparisons_of_nan {a b : Word} (h : isNaN a = true ∨ isNaN b = true) :
    (fpGtr a b).value = 0 ∧ (fpEql a b).value = 0 ∧ (fpGeq a b).value = 0 ∧ (fpNeq a b).value = 0 := by
  simp only [fpGtr, fpEql, fpGeq, fpNeq, fpRel_of_nan h]
  exact ⟨rfl, rfl, rfl, rfl⟩

/-! ### The flags (R421) -/

theorem ifzFlag_or_ifzFlag (a b : Word) :
    ifzFlag a ||| ifzFlag b = if isDenorm a = true ∨ isDenorm b = true then 0x20 else 0 := by
  unfold ifzFlag
  cases isDenorm a <;> cases isDenorm b <;> rfl

theorem fpCmpFlags_quiet (a b : Word) : fpCmpFlags true a b =
    (if isDenorm a = true ∨ isDenorm b = true then 0x20 else 0) |||
      if isNaN a = true ∨ isNaN b = true then 0x10 else 0 := by
  rw [fpCmpFlags, ifzFlag_or_ifzFlag, if_pos rfl, if_congr Bool.or_eq_true_iff rfl rfl]
  rfl

theorem fpCmpFlags_signalling (a b : Word) : fpCmpFlags false a b =
    (if isDenorm a = true ∨ isDenorm b = true then 0x20 else 0) |||
      if isSNaN a = true ∨ isSNaN b = true then 0x10 else 0 := by
  rw [fpCmpFlags, ifzFlag_or_ifzFlag, if_neg Bool.false_ne_true, if_congr Bool.or_eq_true_iff rfl rfl]
  rfl

theorem fpCmpFlags_comm (quietInvalid : Bool) (a b : Word) : fpCmpFlags quietInvalid a b = fpCmpFlags quietInvalid b a := by
  rw [fpCmpFlags, fpCmpFlags, BitVec.or_comm (ifzFlag a), Bool.or_comm (isNaN a), Bool.or_comm (isSNaN a)]

/-- Settles O59: the values by the order of the numbers, for words without denormalized operands read off their bits; the
flags by `fpCmpFlags`, which the operations deliver with them. -/
theorem floatComparisonsAgree : Obligations.FloatComparisonsAgree := by
  intro a b ifz quiet signalling
  have hquiet : fpCmpFlags true a b = ifz ||| quiet := fpCmpFlags_quiet a b
  have hsignalling : fpCmpFlags false a b = ifz ||| signalling := fpCmpFlags_signalling a b
  refine ⟨fun ha hb => ⟨fpGtr_add_fpEql_add_fpGtr ha hb, fpGeq_eq_fpGtr_add_fpEql ha hb, fpNeq_add_fpEql ha hb,
      fpGtr_value ha hb, fpEql_value ha hb, fun hda hdb => ⟨fpGtr_positive ha hb hda hdb, fpGtr_negative ha hb hda hdb,
      fpGtr_positive_negative ha hb hda hdb⟩⟩,
    comparisons_of_nan, rfl, hquiet, hquiet, hsignalling, hsignalling, fun g s1 s2 d s ha hb => ?deliver⟩
  rw [← hquiet, ← hsignalling, ← ha, ← hb]
  obtain ⟨-, -, -, -, -, -, -, -, -, -, -, -, -, -, -, -, feql, feqlflags, fneq, fneqflags, fgtr, fgtrflags, fgeq,
    fgeqflags, fles, flesflags, fleq, fleqflags⟩ := floatConversionsAndComparisonsComplete g s1 s2 d s
  have hcomm := fpCmpFlags_comm true (s.reg s2) (s.reg s1)
  exact ⟨fgtr, fgeq, hcomm ▸ fles, hcomm ▸ fleq, feql, fneq, fgtrflags, fgeqflags, hcomm ▸ flesflags,
    hcomm ▸ fleqflags, feqlflags, fneqflags⟩

end Sys2Proof.Machine
end

section
/-! SUPPORT. Integer sums, products, carries and constants (spec/46_int_arith_imm_ext.md R442 to R460): the modular
arithmetic of the model against exact integers and wider words. -/
namespace Sys2Proof.Machine

/-! ### Sums, differences, absolute values (R444 to R447, R452, R454, R455) -/

theorem add_ofInt (x : Word) (m : Int) : x + BitVec.ofInt 32 m = BitVec.ofInt 32 (x.toInt + m) := by
  rw [BitVec.ofInt_add, BitVec.ofInt_toInt]

theorem sub_ofInt (x : Word) (m : Int) : x - BitVec.ofInt 32 m = BitVec.ofInt 32 (x.toInt - m) := by
  rw [sub_eq_add_neg, sub_eq_add_neg, ← BitVec.ofInt_neg, add_ofInt]

theorem select_abs (x : Word) : (if x.toInt < 0 then -x else x) = BitVec.ofInt 32 x.toInt.natAbs := by
  split_ifs with h
  · rw [Int.ofNat_natAbs_of_nonpos h.le, BitVec.ofInt_neg, BitVec.ofInt_toInt]
  · rw [Int.natAbs_of_nonneg (not_lt.1 h), BitVec.ofInt_toInt]

/-! ### Products (R450, R451, R457, R458) -/

theorem signExtend_mul (x y : Word) : x.signExtend 64 * y.signExtend 64 = BitVec.ofInt 64 (x.toInt * y.toInt) :=
  (BitVec.ofInt_mul _ _).symm

theorem setWidth_mul (x y : Word) : x.setWidth 64 * y.setWidth 64 = BitVec.ofInt 64 (uval x * uval y) := by
  rw [BitVec.ofInt_mul, uval, uval, BitVec.ofInt_natCast, BitVec.ofInt_natCast, BitVec.ofNat_toNat, BitVec.ofNat_toNat]

theorem lowWord_ofInt (x : Int) : (BitVec.ofInt 64 x).extractLsb' 0 32 = wrap32 x := by
  apply BitVec.eq_of_toNat_eq
  rw [BitVec.extractLsb'_toNat, wrap32, BitVec.toNat_ofInt, BitVec.toNat_ofInt, Nat.shiftRight_zero]
  omega

theorem highWord_ofInt (x : Int) : (BitVec.ofInt 64 x).extractLsb' 32 32 = wrap32 (x / 4294967296) := by
  apply BitVec.eq_of_toNat_eq
  rw [BitVec.extractLsb'_toNat, wrap32, BitVec.toNat_ofInt, BitVec.toNat_ofInt, Nat.shiftRight_eq_div_pow]
  omega

/-- Settles O47: every operation here is `issueValue` of its unit; a product modulo 2^64 has the words of the exact
product. -/
theorem integerSumsAndProducts : Obligations.IntegerSumsAndProducts := by
  intro g s1 s2 d m s p q a b
  have alu {i v w} (h : exec i s = issueValue .alu g d v s) := delivers_issueValue (w := w) h rfl
  have ifmul {i v w} (h : exec i s = issueValue .ifmul g d v s) := delivers_issueValue (w := w) h rfl
  have hp : p = BitVec.ofInt 64 (a * b) := signExtend_mul _ _
  have hq : q = BitVec.ofInt 64 (uval (s.reg s1) * uval (s.reg s2)) := setWidth_mul _ _
  refine ⟨?iadd, ?isub, ?iaddi, ?isubi, ?ineg, ?iabs, ?hIabs, ?ident, ?imul, ?imulm, ?umul, ?umulm⟩
  case iadd => exact alu rfl (by rw [← add_ofInt, BitVec.ofInt_toInt])
  case isub => exact alu rfl (by rw [← sub_ofInt, BitVec.ofInt_toInt])
  case iaddi => exact alu rfl (add_ofInt _ m)
  case isubi => exact alu rfl (sub_ofInt _ m)
  case ineg => exact alu rfl (by rw [BitVec.ofInt_neg, BitVec.ofInt_toInt, zero_sub])
  case iabs | hIabs => exact alu rfl (select_abs _)
  case ident => exact alu rfl rfl
  case imul => exact ifmul rfl (by rw [hp, lowWord_ofInt])
  case imulm => exact ifmul rfl (by rw [hp, highWord_ofInt])
  case umul => exact ifmul rfl (by rw [hq, lowWord_ofInt])
  case umulm => exact ifmul rfl (by rw [hq, highWord_ofInt])

/-! ### Carry and average (R443, R448) -/

/-- The carry of two words is what their sum has beyond 32 bits. -/
theorem ofBool_carry (x y : Word) : ofBool (decide (4294967296 ≤ uval x + uval y)) =
    BitVec.ofNat 32 ((x.toNat + y.toNat) / 2 ^ 32) := by
  have hx := x.isLt
  have hy := y.isLt
  unfold ofBool uval
  by_cases h : (4294967296 : Int) ≤ x.toNat + y.toNat
  · rw [if_pos (decide_eq_true h), show (x.toNat + y.toNat) / 2 ^ 32 = 1 by omega]
    rfl
  · rw [if_neg (by rwa [decide_eq_true_eq]), show (x.toNat + y.toNat) / 2 ^ 32 = 0 by omega]
    rfl

/-- A sum of two words and 1 fits 33 bits, so halving it there is exact. -/
theorem wrap32_average (x y : Word) : wrap32 ((x.toInt + y.toInt + 1) / 2) =
    ((x.signExtend 33 + y.signExtend 33 + 1).sshiftRight 1).setWidth 32 := by
  have hx := BitVec.le_toInt x
  have hy := BitVec.le_toInt y
  have hx' := BitVec.toInt_lt (x := x)
  have hy' := BitVec.toInt_lt (x := y)
  have hsum : x.signExtend 33 + y.signExtend 33 + 1 = BitVec.ofInt 33 (x.toInt + y.toInt + 1) := by
    rw [BitVec.ofInt_add, BitVec.ofInt_add]
    rfl
  rw [hsum, BitVec.sshiftRight, BitVec.toInt_ofInt_eq_self (by decide) (by omega) (by omega), Int.shiftRight_eq_div_pow]
  apply BitVec.eq_of_toNat_eq
  rw [wrap32, BitVec.toNat_setWidth, BitVec.toNat_ofInt, BitVec.toNat_ofInt]
  omega

/-- Settles O48: every guarded operation here is `issueValue` of its unit, and a constant is issued without a guard. -/
theorem carriesSelectionsConstants : Obligations.CarriesSelectionsConstants := by
  intro g s1 s2 d m s a b
  have alu {i v w} (h : exec i s = issueValue .alu g d v s) := delivers_issueValue (w := w) h rfl
  have hzero : a = 0 ↔ a.toNat = 0 := BitVec.toNat_inj.symm
  refine ⟨?carry, ?borrow, ?iavgonep, ?izero, ?inonzero, ?iimm, ?uimm⟩
  case carry => exact alu rfl (ofBool_carry a b)
  case borrow => exact alu rfl rfl
  case iavgonep => exact delivers_issueValue rfl rfl (wrap32_average a b)
  case izero => exact alu rfl (if_congr hzero rfl rfl)
  case inonzero => exact alu rfl ((ite_not ..).trans (if_congr hzero rfl rfl))
  case iimm | uimm => rfl

end Sys2Proof.Machine
end

section
/-! SUPPORT. Extensions, packing, merging and byte selection (spec/46_int_arith_imm_ext.md R461 to R464,
spec/49_cache_pack.md R560 to R567). -/
namespace Sys2Proof.Machine

/-! ### Packing (R564 to R566) -/

theorem byteAt_zero_toNat (w : Word) : (byteAt w 0).toNat = w.toNat % 2 ^ 8 := by
  rw [byteAt_toNat, Nat.mul_zero, pow_zero, Nat.div_one]

theorem halfAt_zero_toNat (w : Word) : (halfAt w 0).toNat = w.toNat % 2 ^ 16 := by
  rw [halfAt, BitVec.extractLsb'_toNat, Nat.mul_zero, Nat.shiftRight_zero]

theorem halfAt_one_toNat (w : Word) : (halfAt w 1).toNat = w.toNat / 2 ^ 16 := by
  have hw := w.isLt
  rw [halfAt, BitVec.extractLsb'_toNat, Nat.mul_one, Nat.shiftRight_eq_div_pow, Nat.mod_eq_of_lt (by omega)]

theorem ofHalves_eq_ofNat (hi lo : BitVec 16) : ofHalves hi lo = BitVec.ofNat 32 (hi.toNat * 2 ^ 16 + lo.toNat) := by
  rw [← append_toNat, BitVec.ofNat_toNat, BitVec.setWidth_eq, ofHalves]

theorem ofBytes_low_eq_ofNat (b1 b0 : Byte) : ofBytes 0 0 b1 b0 = BitVec.ofNat 32 (b1.toNat * 2 ^ 8 + b0.toNat) := by
  have h1 := b1.isLt
  have h0 := b0.isLt
  apply BitVec.eq_of_toNat_eq
  rw [ofBytes_toNat, BitVec.toNat_ofNat, show (0 : Byte).toNat = 0 from rfl]
  omega

/-! ### Byte selection (R560, R567) -/

/-- Below 4 the selector picks a byte, which is issued extended. -/
theorem selectByte_of_lt (g : Reg) (ext : Byte → Word) (a : Word) {b : Word} (d : Reg) (s : State) (h : b.toNat < 4) :
    selectByte g ext a b d s = issueValue .alu g d (ext (byteAt a b.toNat)) s := by
  have hb : b < 4 := h
  simp only [selectByte, issueValue, if_pos hb]

/-- From 4 on the value is free, whatever the extension (U17). -/
theorem selectByte_of_ge {g : Reg} (ext : Byte → Word) (a : Word) {b : Word} (d : Reg) {s : State} (h : 4 ≤ b.toNat)
    (hg : s.guard g = true) :
    selectByte g ext a b d s = .next (s.drawn.issueResult d (Config.freeWord s.freeCount) FuncUnit.alu.latency) := by
  have hb : ¬ b < 4 := h.not_gt
  simp only [selectByte, guarded, if_pos hg, if_neg hb]

/-- Settles O49: extensions, packing and merging are `issueValue` of their unit, and so is a selection whose selector is
below 4. -/
theorem extensionsPackingSelection : Obligations.ExtensionsPackingSelection := by
  intro g s1 s2 d s a b
  have alu {i v w} (h : exec i s = issueValue .alu g d v s) := delivers_issueValue (w := w) h rfl
  have merged {i u b3 b2 b1 b0} (h : exec i s = issueValue u g d (ofBytes b3 b2 b1 b0) s) (hlat : u.latency = 1) :
      ∃ v, Delivers i g d 1 s v ∧ byteAt v 3 = b3 ∧ byteAt v 2 = b2 ∧ byteAt v 1 = b1 ∧ byteAt v 0 = b0 := by
    obtain ⟨h0, h1, h2, h3⟩ := byteAt_ofBytes b3 b2 b1 b0
    exact ⟨_, delivers_issueValue h hlat rfl, h3, h2, h1, h0⟩
  refine ⟨?sex8, ?sex16, ?zex8, ?zex16, ?pack16lsb, ?pack16msb, ?packbytes, ?mergelsb, ?mergemsb, ?mergedual16lsb,
    fun hb => ⟨?ibytesel, ?ubytesel⟩, fun hb hg => ⟨Config.freeWord s.freeCount, ?ibyteselFree, ?ubyteselFree⟩⟩
  case sex8 | sex16 => exact alu rfl rfl
  case zex8 => exact alu rfl (lowBytes_eq .b1 a)
  case zex16 => exact alu rfl (lowBytes_eq .b2 a)
  case pack16lsb => exact alu rfl (by rw [ofHalves_eq_ofNat, halfAt_zero_toNat, halfAt_zero_toNat])
  case pack16msb => exact alu rfl (by rw [ofHalves_eq_ofNat, halfAt_one_toNat, halfAt_one_toNat])
  case packbytes => exact alu rfl (by rw [ofBytes_low_eq_ofNat, byteAt_zero_toNat, byteAt_zero_toNat])
  case mergelsb | mergemsb | mergedual16lsb => exact merged rfl rfl
  case ibytesel => exact alu (selectByte_of_lt g sext8 a d s hb) rfl
  case ubytesel =>
    exact alu (selectByte_of_lt g zext8 a d s hb) (by rw [← byteAt_toNat, BitVec.ofNat_toNat, zext8])
  case ibyteselFree => exact selectByte_of_ge sext8 a d hb hg
  case ubyteselFree => exact selectByte_of_ge zext8 a d hb hg

end Sys2Proof.Machine
end

section
/-! SUPPORT. Integer comparisons (spec/47_int_relational.md R480 to R505): the truth value of the model's relation on
exact integers against the relations on words. -/
namespace Sys2Proof.Machine

/-! ### Truth values (R480) -/

theorem ofBool_decide_of_iff {p q : Prop} [Decidable p] [Decidable q] (h : p ↔ q) :
    ofBool (decide p) = if q then 1 else 0 :=
  if_congr (decide_eq_true_iff.trans h) rfl rfl

theorem ofBool_decide_of_iff_not {p q : Prop} [Decidable p] [Decidable q] (h : p ↔ ¬q) :
    ofBool (decide p) = if q then 0 else 1 := by
  rw [ofBool_decide_of_iff h, ite_not]

/-! ### Unsigned values of words -/

theorem uval_eq_uval_iff {x y : Word} : uval x = uval y ↔ x = y := Int.ofNat_inj.trans BitVec.toNat_inj

theorem uval_lt_uval_iff {x y : Word} : uval x < uval y ↔ x.ult y :=
  Int.ofNat_lt.trans BitVec.ult_iff_toNat_lt.symm

theorem uval_le_uval_iff {x y : Word} : uval x ≤ uval y ↔ x.ule y :=
  Int.ofNat_le.trans BitVec.ule_iff_toNat_le.symm

/-! ### The comparisons -/

/-- Settles O50: every comparison is `issueValue` of the alu with the truth value of its relation on exact integers.
Between registers that relation is the one of words; against a modifier the statement writes an order relation as the
negation of the opposite one. -/
theorem integerComparisons : Obligations.IntegerComparisons := by
  intro g s1 s2 d m s a b
  have holds {i p q} [Decidable p] [Decidable q] (h : exec i s = issueValue .alu g d (ofBool (decide p)) s)
      (hpq : p ↔ q) : Delivers i g d 1 s (if q then 1 else 0) :=
    delivers_issueValue h rfl (ofBool_decide_of_iff hpq)
  have fails {i p q} [Decidable p] [Decidable q] (h : exec i s = issueValue .alu g d (ofBool (decide p)) s)
      (hpq : p ↔ ¬q) : Delivers i g d 1 s (if q then 0 else 1) :=
    delivers_issueValue h rfl (ofBool_decide_of_iff_not hpq)
  refine ⟨?ieql, ?ineq, ?igtr, ?igeq, ?iles, ?ileq, ?ieqli, ?ineqi, ?igtri, ?igeqi, ?ilesi, ?ileqi,
    ?ueql, ?uneq, ?ugtr, ?ugeq, ?ules, ?uleq, ?ueqli, ?uneqi, ?ugtri, ?ugeqi, ?ulesi, ?uleqi⟩
  case ieql => exact holds rfl BitVec.toInt_inj
  case ineq => exact fails rfl BitVec.toInt_inj.not
  case igtr | iles => exact holds rfl BitVec.slt_iff_toInt_lt.symm
  case igeq | ileq => exact holds rfl BitVec.sle_iff_toInt_le.symm
  case ueql => exact holds rfl uval_eq_uval_iff
  case uneq => exact fails rfl uval_eq_uval_iff.not
  case ugtr | ules => exact holds rfl uval_lt_uval_iff
  case ugeq | uleq => exact holds rfl uval_le_uval_iff
  case ieqli | ueqli => exact holds rfl Iff.rfl
  case ineqi | uneqi => exact fails rfl Iff.rfl
  case igtri | ilesi | ugtri | ulesi => exact fails rfl not_le.symm
  case igeqi | ileqi | ugeqi | uleqi => exact fails rfl not_lt.symm

end Sys2Proof.Machine
end

section
/-! SUPPORT. Special registers, jumps and the event decision (spec/48_control_special.md R510 to R539,
spec/60_exceptions.md R611 to R614): what a jump leaves pending, and what the end of its delay does, first for
`State.redirect`, then through whole instructions. -/
namespace Sys2Proof.Machine

/-! ### Special registers (R530 to R539) -/

theorem guarded_update (g : Reg) (s : State) (f : State → State) :
    guarded g s (fun u => .next (f u)) = .next (if s.guard g then f s else s) :=
  (apply_ite Host.Outcome.next ..).symm

theorem guarded_taken {g : Reg} {s : State} (f : State → Out) (h : s.guard g = true) : guarded g s f = f s := if_pos h

/-- The presumed places of RSE and TRPRSE (log 6). -/
theorem reservedBits_eq : reservedBits = 0x20002000 := by decide

theorem writePcsw_allowed {v m : Word} (s : State) (h : v &&& m &&& 0x20002000 = 0) :
    writePcsw v m s = .next { s with pcswWrite := some (v, m) } :=
  if_pos (reservedBits_eq ▸ h)

theorem writePcsw_reserved {v m : Word} (s : State) (h : v &&& m &&& 0x20002000 ≠ 0) :
    writePcsw v m s = .refused .reservedPcswBits :=
  if_neg (reservedBits_eq ▸ h)

theorem lowHalf_eq (c : BitVec 64) : c.extractLsb' 0 32 = BitVec.ofNat 32 c.toNat := rfl

theorem highHalf_eq (c : BitVec 64) : c.extractLsb' 32 32 = BitVec.ofNat 32 (c.toNat / 2 ^ 32) := by
  rw [BitVec.extractLsb', Nat.shiftRight_eq_div_pow]

/-- Settles O23: a read is `issueValue` of the fcomp unit, a write is guarded and only notes its value. -/
theorem specialRegisterReadsAndWrites : Obligations.SpecialRegisterReadsAndWrites := by
  intro g s1 s2 d s
  have fcomp {i v w} (h : exec i s = issueValue .fcomp g d v s) := delivers_issueValue (w := w) h rfl
  refine ⟨?cycles, ?hicycles, ?curcycles, ?readdpc, ?readspc, ?readpcsw, ?writedpc, ?writespc, ?nop,
    fun hg hv => ?allowed, fun hg hv => ?reserved⟩
  case cycles | curcycles => exact fcomp rfl (lowHalf_eq _)
  case hicycles => exact fcomp rfl (highHalf_eq _)
  case readdpc | readspc | readpcsw => exact fcomp rfl rfl
  case writedpc => exact guarded_update g s fun u => { u with dpcWrite := some (u.reg s1) }
  case writespc => exact guarded_update g s fun u => { u with spcWrite := some (u.reg s1) }
  case nop => rfl
  case allowed => exact (guarded_taken _ hg).trans (writePcsw_allowed s hv)
  case reserved => exact (guarded_taken _ hg).trans (writePcsw_reserved s hv)

/-! ### The jumps at their issue (R511, R520 to R525) -/

theorem jumps_of_jump {i : Instr} {g : Reg} {c interruptible : Bool} {target : Word} {s : State}
    (h : exec i s = jump g c interruptible target s) : Jumps i g c interruptible target s :=
  h.trans (jump_eq g c interruptible target s)

/-- Settles O24: each of the six is `jump` with its own condition. -/
theorem jumpsLeaveTheirRedirect : Obligations.JumpsLeaveTheirRedirect := fun _ _ _ _ _ =>
  ⟨jumps_of_jump rfl, jumps_of_jump rfl, jumps_of_jump rfl, jumps_of_jump rfl, jumps_of_jump rfl, jumps_of_jump rfl⟩

/-! ### The event decision (R514, R539, R611, R613, R614) -/

theorem getD_eq_or_mem {α : Type} (l : List α) (n : Nat) (x : α) : l.getD n x = x ∨ l.getD n x ∈ l := by
  rcases Nat.lt_or_ge n l.length with h | h
  · rw [List.getD_eq_getElem l x h]
    exact .inr (List.getElem_mem h)
  · exact .inl (List.getD_eq_default l x h)

/-- The decision reads the current word or an older one (U16). -/
theorem decisionPcsw_word (s : State) : s.decisionPcsw.1 = s.pcsw ∨ ∃ q ∈ s.oldPcsw, q.1 = s.decisionPcsw.1 := by
  unfold State.decisionPcsw
  split
  · exact .inl rfl
  · next old _ =>
    rcases getD_eq_or_mem (s.pcsw :: s.oldPcsw.map Prod.fst)
      (Config.freeNat s.freeCount % (s.oldPcsw.length + 1)) s.pcsw with h | h
    · exact .inl h
    · exact (List.mem_cons.1 h).imp_right List.mem_map.1

theorem decisionPcsw_of_settled {s : State} (h : s.oldPcsw = []) : s.decisionPcsw = (s.pcsw, s) := by
  unfold State.decisionPcsw
  rw [h]

theorem dispatched_eq (s : State) (w : Fin 32) : s.dispatched w =
    { s with pend := if s.levelSensitive w then s.pend else s.pend &&& ~~~(bit w.val) } := by
  unfold State.dispatched
  split <;> rfl

theorem dispatched_pend (s : State) (w n : Fin 32) : (s.dispatched w).pend.getLsbD n =
    (s.pend.getLsbD n && !(decide (n = w) && !s.levelSensitive w)) := by
  have hb : (bit w.val).getLsbD n = decide (n = w) := by
    rw [bit_getLsbD _ _ n.isLt, decide_eq_decide, Fin.ext_iff]
  rw [dispatched_eq]
  cases s.levelSensitive w with
  | true => rw [if_pos rfl, Bool.not_true, Bool.and_false, Bool.not_false, Bool.and_true]
  | false =>
    rw [if_neg Bool.false_ne_true, BitVec.getLsbD_and, BitVec.getLsbD_not, hb, decide_eq_true n.isLt, Bool.true_and,
      Bool.not_false, Bool.and_true]

section
variable {s : State} {p : Word} {n : Nat} (target : Word)

/-- An enabled exception goes first (R611). -/
theorem completeInterruptible_exception (hd : s.decisionPcsw = (p, { s with freeCount := n }))
    (he : exceptionPending p = true) : s.completeInterruptible target =
      { s with dpc := target, ccSlave := s.ccMaster, freeCount := n, pc := s.excvec } := by
  simp only [State.completeInterruptible, hd, he, if_true, State.enterException]

/-- Else the winner among the sources (R613). -/
theorem completeInterruptible_interrupt (hd : s.decisionPcsw = (p, { s with freeCount := n }))
    (he : exceptionPending p = false) {w : Fin 32} (hw : s.interruptWinner p = some w) :
    s.completeInterruptible target = { s with
      dpc := target, ccSlave := s.ccMaster, freeCount := n, pc := s.intvec[w], pend := (s.dispatched w).pend } := by
  have hw' : { s with freeCount := n }.interruptWinner p = some w := hw
  simp only [State.completeInterruptible, hd, he, hw', State.enterInterrupt, dispatched_eq]
  rfl

/-- Else the jump itself (R514). -/
theorem completeInterruptible_plain (hd : s.decisionPcsw = (p, { s with freeCount := n }))
    (he : exceptionPending p = false) (hw : s.interruptWinner p = none) : s.completeInterruptible target =
      { s with dpc := target, ccSlave := s.ccMaster, freeCount := n, spc := target, pc := target } := by
  have hw' : { s with freeCount := n }.interruptWinner p = none := hw
  simp only [State.completeInterruptible, hd, he, hw']
  rfl

theorem completeInterruptible_freeCount (hd : s.decisionPcsw = (p, { s with freeCount := n })) :
    (s.completeInterruptible target).freeCount = n := by
  cases he : exceptionPending p with
  | true => rw [completeInterruptible_exception target hd he]
  | false =>
    cases hw : s.interruptWinner p with
    | none => rw [completeInterruptible_plain target hd he hw]
    | some w => rw [completeInterruptible_interrupt target hd he hw]

end

/-- Settles O28: the decision by the word that it reads, case by case. -/
theorem interruptibleJumpDecidesTheEvent : Obligations.InterruptibleJumpDecidesTheEvent := by
  intro s target
  obtain ⟨n, hn⟩ := decisionPcsw_frame s
  have hd : s.decisionPcsw = (s.decisionPcsw.1, { s with freeCount := n }) := Prod.ext rfl hn
  refine ⟨_, s.decisionPcsw.1, rfl, decisionPcsw_word s, fun hold => ?settled, ?_⟩
  case settled =>
    have hs := decisionPcsw_of_settled hold
    exact ⟨congrArg Prod.fst hs, completeInterruptible_freeCount target hs⟩
  rw [completeInterruptible_freeCount target hd]
  refine ⟨completeInterruptible_exception target hd, fun w he hw => ?interrupt, completeInterruptible_plain target hd⟩
  rw [completeInterruptible_interrupt target hd he hw]
  exact ⟨rfl, dispatched_pend s w⟩

/-! ### The jumps at the end of an instruction (R510, R512, R513) -/

theorem completeJump_plain {r : Redirect} (s : State) (h : r.interruptible = false) :
    s.completeJump r = { s with pc := r.target } := by
  simp [State.completeJump, h]

theorem completeJump_interruptible {r : Redirect} (s : State) (h : r.interruptible = true) :
    s.completeJump r = s.completeInterruptible r.target := if_pos h

theorem redirect_twoJumps {s : State} (h : ¬(s.redirects.map fun r => r.left).Nodup) (len : BitVec 16) :
    s.redirect len = .error .twoJumps :=
  if_neg (mt (distinct_iff _).1 h)

/-- The jump whose delay ends is the only one of its distance, so it is the one that is found. -/
theorem redirect_due {s : State} {r : Redirect} (hn : (s.redirects.map fun r => r.left).Nodup) (hr : r ∈ s.redirects)
    (h0 : r.left = 0) (len : BitVec 16) :
    s.redirect len = .ok ({ s with redirects := laterRedirects s.redirects }.completeJump r) := by
  have hfind : (s.redirects.find? fun r => decide (r.left = 0)) = some r := by
    have hsome : (s.redirects.find? fun r => decide (r.left = 0)).isSome := by
      rw [List.find?_isSome]
      exact ⟨r, hr, decide_eq_true h0⟩
    obtain ⟨q, hq⟩ := Option.isSome_iff_exists.1 hsome
    have hq0 : q.left = 0 := by simpa only [decide_eq_true_eq] using List.find?_some hq
    rw [hq, List.inj_on_of_nodup_map hn (List.mem_of_find?_eq_some hq) hr (hq0.trans h0.symm)]
  simp only [State.redirect, (distinct_iff _).2 hn, hfind, if_true]

theorem redirect_follow {s : State} (hn : (s.redirects.map fun r => r.left).Nodup) (h : ∀ r ∈ s.redirects, r.left ≠ 0)
    (len : BitVec 16) : s.redirect len =
      .ok { s with redirects := laterRedirects s.redirects, pc := s.pc + len.setWidth 32 } := by
  have hfind : (s.redirects.find? fun r => decide (r.left = 0)) = none :=
    List.find?_eq_none.2 fun r hr => by rw [decide_eq_true_iff]; exact h r hr
  simp only [State.redirect, (distinct_iff _).2 hn, hfind, if_true]

/-- Settles O25: by whether the delay of a jump ends, and of which kind that jump is. -/
theorem redirectAtTheEndOfAnInstruction : Obligations.RedirectAtTheEndOfAnInstruction := by
  intro s len
  refine ⟨fun h => redirect_twoJumps h len, fun hn => ?_⟩
  obtain ⟨t, ht⟩ := redirect_ok hn len
  have hlater : t.redirects = laterRedirects s.redirects := by
    obtain ⟨-, -, _, _, _, _, _, _, rfl⟩ := redirect_next ht
    rfl
  refine ⟨t, ht, hlater, fun r hr h0 hi => ?plain, fun r hr h0 hi => ?interruptible, fun h => ?follow⟩
  case plain =>
    rw [redirect_due hn hr h0, completeJump_plain _ hi] at ht
    cases ht
    exact ⟨rfl, rfl, rfl⟩
  case interruptible =>
    rw [redirect_due hn hr h0, completeJump_interruptible _ hi] at ht
    rw [hlater]
    exact (Except.ok.inj ht).symm
  case follow =>
    rw [redirect_follow hn h] at ht
    cases ht
    exact ⟨rfl, rfl, rfl⟩

/-! ### A jump among whole instructions (R510) -/

/-- The jumps of an ended instruction: `State.redirect` meets them as they were pending, and what follows it keeps PC. -/
theorem retire_redirect {s t : State} {i : CycleInputs} {a : Word} {len : BitVec 16} (h : s.retire i a len = .ok t) :
    ∃ u v : State, u.redirects = s.redirects ∧ u.redirect len = .ok v ∧ t.pc = v.pc := by
  unfold State.retire at h
  split at h
  · cases h
  next s1 hw hb =>
  have hs1 : s1.redirects = s.redirects := by
    obtain ⟨_, _, _, hc⟩ := observed_clockCycle_frame s i (s.instBreak a)
    obtain ⟨_, _, -, -, -, rfl⟩ := writeBack_next hb rfl
    rw [hc]
  split at h
  · cases h
  next v hv =>
  cases h
  exact ⟨s1.updatePcsw hw, v, hs1, hv, rfl⟩

theorem retire_jump_pc {s t : State} {i : CycleInputs} {a : Word} {len : BitVec 16} (h : s.retire i a len = .ok t)
    {r : Redirect} (hr : r ∈ s.redirects) (h0 : r.left = 0) (hi : r.interruptible = false) : t.pc = r.target := by
  obtain ⟨u, v, hu, hv, hpc⟩ := retire_redirect h
  rw [redirect_due (redirect_next hv).1 (hu ▸ hr) h0, completeJump_plain _ hi] at hv
  cases hv
  exact hpc

/-- Between two instructions or after the issue of one: the only thing on its way is a jump to `target` that is not
interruptible, `n` instructions after this one. -/
structure State.Awaits (s : State) (target : Word) (n : Nat) : Prop where
  results : s.results = []
  redirects : s.redirects = [⟨target, n, false⟩]
  idle : s.scratchOk = true

theorem twoSpecial_of_idle {s : State} (hs : s.scratchOk = true) : s.twoSpecial = false := by
  simp only [State.scratchOk, Bool.and_eq_true, decide_eq_true_eq] at hs
  obtain ⟨hacc, -⟩ := hs
  rw [State.twoSpecial, hacc]
  rfl

theorem issueBundle_nops {s : State} (hs : s.scratchOk = true) (len : BitVec 16) :
    issueBundle (Bundle.nops len) s = .next s :=
  issueBundle_of_order (t := s) rfl rfl (twoSpecial_of_idle hs)

theorem issueBundle_jmpi {s : State} (hs : s.scratchOk = true) (target : Word) (len : BitVec 16) :
    issueBundle ((Bundle.nops len).put 2 (.jmpi 1 target)) s =
      .next { s with redirects := ⟨target, 3, false⟩ :: s.redirects } := by
  have hjmp : exec (.jmpi 1 target) s = .next { s with redirects := ⟨target, 3, false⟩ :: s.redirects } :=
    (jumps_of_jump (g := 1) (c := true) rfl).trans (by rw [reg_one]; rfl)
  refine issueBundle_of_order (t := { s with redirects := ⟨target, 3, false⟩ :: s.redirects }) ?_ rfl
    (twoSpecial_of_idle (scratchOk_congr rfl rfl hs))
  exact (issueOps_cons_next _ (show exec .nop s = .next s from rfl)).trans (issueOps_cons_next _ hjmp)

section
variable {s u : State} {b : Bundle} {target : Word} {n : Nat}

theorem runBundle_of_retire {t : State} {i : CycleInputs} (h : issueBundle b s = .next u)
    (ht : u.retire i s.pc b.length = .ok t) : runBundle i b s = .next t := by
  simp only [runBundle, h, ht]
  rfl

theorem State.Awaits.retire_ok (h : u.Awaits target n) (i : CycleInputs) (a : Word) (len : BitVec 16) :
    ∃ t, u.retire i a len = .ok t :=
  Machine.retire_ok (by simp [State.dueResults, h.results]) (by simp [h.redirects]) i a len

/-- While the delay lasts, the next instruction in memory follows. -/
theorem runBundle_awaiting (h : issueBundle b s = .next u) (hu : u.Awaits target (n + 1)) (i : CycleInputs) :
    ∃ t, runBundle i b s = .next t ∧ t.Awaits target n ∧ t.pc = s.pc + b.length.setWidth 32 := by
  obtain ⟨t, ht⟩ := hu.retire_ok i s.pc b.length
  obtain ⟨kept, hw, he⟩ := retire_next ht
  refine ⟨t, runBundle_of_retire h ht, ⟨?results, ?redirects, ?idle⟩, ?pc⟩
  case results => rw [congrArg State.results he.frame, hu.results]; rfl
  case redirects => rw [congrArg State.redirects he.frame, hu.redirects]; rfl
  case idle => rw [State.scratchOk, congrArg State.issue he.frame]; rfl
  case pc => rw [he.nextPc (by simp [hu.redirects]), (issueBundle_sameCore h).pc]

/-- At its end the jump goes to its target. -/
theorem runBundle_landing (h : issueBundle b s = .next u) (hu : u.Awaits target 0) (i : CycleInputs) :
    ∃ t, runBundle i b s = .next t ∧ t.pc = target := by
  obtain ⟨t, ht⟩ := hu.retire_ok i s.pc b.length
  exact ⟨t, runBundle_of_retire h ht, retire_jump_pc ht (r := ⟨target, 0, false⟩) (by simp [hu.redirects]) rfl rfl⟩

end

/-- Settles O26: the jump is issued three instructions away, and each of the next ones brings it nearer by one. -/
theorem jumpTakesEffectAfterThreeInstructions : Obligations.JumpTakesEffectAfterThreeInstructions := by
  intro inp s target l0 l1 l2 l3 hr hj hs
  have hissued : { s with redirects := ⟨target, 3, false⟩ :: s.redirects }.Awaits target 3 :=
    ⟨hr, congrArg _ hj, scratchOk_congr rfl rfl hs⟩
  obtain ⟨t1, r1, a1, p1⟩ := runBundle_awaiting (issueBundle_jmpi hs target l0) hissued inp
  obtain ⟨t2, r2, a2, p2⟩ := runBundle_awaiting (issueBundle_nops a1.idle l1) a1 inp
  obtain ⟨t3, r3, a3, p3⟩ := runBundle_awaiting (issueBundle_nops a2.idle l2) a2 inp
  obtain ⟨t4, r4, p4⟩ := runBundle_landing (issueBundle_nops a3.idle l3) a3 inp
  exact ⟨t1, t2, t3, t4, r1, r2, r3, r4, p1, p2, p3, p4⟩

end Sys2Proof.Machine
end

section
/-! SUPPORT. The start command, the exception request and the interrupt controller (spec/70_reset_and_hazards.md R704;
spec/60_exceptions.md R610 to R628): which source wins, and how the pending flags follow stores and edges. -/
namespace Sys2Proof.Machine

/-! ### Start (R704, U33) -/

theorem wakeByBus_of_awake {s : State} (h : s.run ≠ .sleeping) : s.wakeByBus = s := if_neg h

/-- A PI master's write of TM32_CTL on a core that is not in full powerdown, and that it wakes. -/
theorem environment_writeCtl {s : State} (hp : s.pwrdwn = false) (v : Word) :
    s.environment (.piWrite 0x100030 v) = s.wakeByBus.writeCtl v := by
  have h : s.environment (.piWrite 0x100030 v) = if s.pwrdwn then .ok s else s.wakeByBus.writeCtl v := rfl
  rw [h, hp, if_neg Bool.false_ne_true]

theorem start_of_stopped {s : State} (h : s.run = .stopped) : s.start = { s with run := .running, pc := s.startAddr } :=
  if_pos h

theorem writeCtl_start {s : State} {v : Word} (h : s.run = .stopped) (hv : v.extractLsb' 30 2 = 2) : s.writeCtl v =
    .ok { s with
      ctlPllEn := v.extractLsb' 6 1, ctlRatio := v.extractLsb' 0 6, run := .running, pc := s.startAddr } := by
  rw [State.writeCtl, hv, if_neg (by decide), if_pos (.inl (decide_eq_true h))]
  exact congrArg _ (start_of_stopped h)

/-- Settles O9: a stopped core is awake, and its configuration may change. -/
theorem startCommandRunsFromStartAddress : Obligations.StartCommandRunsFromStartAddress := by
  intro s v hp hr hv
  rw [environment_writeCtl hp, wakeByBus_of_awake (by rw [hr]; decide), writeCtl_start hr hv]

/-! ### The exception request (R610) -/

/-- Two fields of a word share a 1 exactly where the word has it at both places. -/
theorem fields_and_ne_zero (p : Word) (a b n : Nat) :
    p.extractLsb' a n &&& p.extractLsb' b n ≠ 0 ↔ ∃ k < n, p.getLsbD (a + k) = true ∧ p.getLsbD (b + k) = true := by
  rw [ne_eq, BitVec.eq_of_getLsbD_eq_iff, not_forall]
  refine exists_congr fun k => ?_
  simp +contextual

/-- Settles O27: the four disjuncts of `exceptionPending`, the floating-point flags and their enables as two fields. -/
theorem exceptionRequestIsFlagAndEnable : Obligations.ExceptionRequestIsFlagAndEnable := by
  intro p
  have hfloat := fields_and_ne_zero p 0 16 7
  simp only [Nat.zero_add] at hfloat
  simp only [exceptionPending, tfe, Config.wbeBit, Config.trpWbeBit, Config.tfeBit, Bool.or_eq_true, Bool.and_eq_true,
    decide_eq_true_eq, hfloat, or_assoc]

/-! ### Arbitration (R612, R614, R625) -/

theorem priority_lt (s : State) (n : Fin 32) : s.priority n < 8 := ((s.mp n).extractLsb' 0 3).isLt

theorem candidateAt_eq_some {s : State} {l : Nat} {w : Fin 32} : s.candidateAt l = some w ↔
    s.candidate w = true ∧ s.priority w = l ∧ ∀ n : Fin 32, s.candidate n = true → s.priority n = l → w ≤ n := by
  have hfind := List.find?_ofFn_eq_some_of_injective (f := id) (i := w)
    (p := fun n => s.candidate n && decide (s.priority n = l)) Function.injective_id
  refine (show s.candidateAt l = some w ↔ _ from hfind).trans ?_
  simp only [id_eq, Bool.and_eq_true, decide_eq_true_eq, not_and, and_assoc]
  refine and_congr_right fun _ => and_congr_right fun _ => forall_congr' fun n =>
    ⟨fun h hc hl => ?_, fun h hn hc hl => ?_⟩
  · exact not_lt.1 fun hn => h hn hc hl
  · exact absurd hn (not_lt.2 (h hc hl))

theorem candidateAt_eq_none {s : State} {l : Nat} :
    s.candidateAt l = none ↔ ∀ n : Fin 32, s.candidate n = true → s.priority n ≠ l := by
  simp only [State.candidateAt, List.find?_eq_none, List.mem_finRange, Bool.and_eq_true, decide_eq_true_eq, not_and,
    true_imp_iff, ne_eq]

/-- Of the levels `ls`, highest first, the first one with a candidate gives the winner. -/
theorem findSome_candidateAt {s : State} {ls : List Nat} (h : ls.Pairwise (· > ·)) {w : Fin 32} :
    ls.findSome? s.candidateAt = some w ↔ s.candidate w = true ∧ s.priority w ∈ ls ∧ ∀ n : Fin 32,
      s.candidate n = true → s.priority n ∈ ls → s.priority n < s.priority w ∨ s.priority n = s.priority w ∧ w ≤ n := by
  induction ls with
  | nil => simp
  | cons l ls ih =>
    obtain ⟨hl, hls⟩ := List.pairwise_cons.1 h
    rw [List.findSome?_cons]
    cases hc : s.candidateAt l with
    | some m =>
      obtain ⟨hm, hp, hmin⟩ := candidateAt_eq_some.1 hc
      refine ⟨?_, ?_⟩
      · rintro ⟨⟩
        refine ⟨hm, List.mem_cons.2 (.inl hp), fun n hcn hmn => ?_⟩
        rcases List.mem_cons.1 hmn with he | hlow
        · exact .inr ⟨he.trans hp.symm, hmin n hcn he⟩
        · exact .inl (hp ▸ hl _ hlow)
      · rintro ⟨hw, hmem, hbest⟩
        have hle : s.priority w ≤ l := (List.mem_cons.1 hmem).elim le_of_eq fun hlow => (hl _ hlow).le
        obtain ⟨he, hwm⟩ := (hbest m hm (List.mem_cons.2 (.inl hp))).resolve_left (by omega)
        exact congrArg some (le_antisymm (hmin w hw (he ▸ hp)) hwm)
    | none =>
      have hn := candidateAt_eq_none.1 hc
      refine (ih hls).trans ⟨?_, ?_⟩
      · rintro ⟨hw, hmem, hbest⟩
        exact ⟨hw, List.mem_cons_of_mem _ hmem, fun n hcn hmn =>
          hbest n hcn ((List.mem_cons.1 hmn).resolve_left (hn n hcn))⟩
      · rintro ⟨hw, hmem, hbest⟩
        exact ⟨hw, (List.mem_cons.1 hmem).resolve_left (hn w hw), fun n hcn hmn =>
          hbest n hcn (List.mem_cons_of_mem _ hmn)⟩

/-- The levels that can win under PCSW `p`, highest first: NMI, and with IEN the regular ones. -/
def winningLevels (p : Word) : List Nat := if ien p then [7, 6, 5, 4, 3, 2, 1, 0] else [7]

theorem interruptWinner_eq (s : State) (p : Word) :
    s.interruptWinner p = (winningLevels p).findSome? s.candidateAt := by
  unfold State.interruptWinner winningLevels
  cases ien p <;> cases h : s.candidateAt 7 <;> simp [h, List.findSome?_cons]

theorem winningLevels_pairwise (p : Word) : (winningLevels p).Pairwise (· > ·) := by
  unfold winningLevels
  split <;> decide

theorem priority_mem_winningLevels (s : State) (p : Word) (n : Fin 32) :
    s.priority n ∈ winningLevels p ↔ s.priority n = 7 ∨ p.getLsbD 10 = true := by
  have hlt := priority_lt s n
  cases h : p.getLsbD 10 with
  | false =>
    simp only [winningLevels, show ien p = false from h, Bool.false_eq_true, if_false, List.mem_singleton, or_false]
  | true =>
    simp only [winningLevels, show ien p = true from h, if_true, List.mem_cons, List.not_mem_nil, or_false, or_true,
      iff_true]
    omega

/-- Settles O29: the first level of `winningLevels` with a candidate wins. -/
theorem arbitrationPicksHighestLevelLowestNumber : Obligations.ArbitrationPicksHighestLevelLowestNumber := by
  refine fun s p => ⟨fun w => ?_, ?_⟩
  · rw [interruptWinner_eq, findSome_candidateAt (winningLevels_pairwise p)]
    simp only [priority_mem_winningLevels]
    have hlt := priority_lt s
    refine and_congr_right fun _ => ⟨fun ⟨hw, hbest⟩ => ⟨?_, fun n hn => ?_⟩,
      fun ⟨hw, hbest⟩ => ⟨hw.imp_right And.left, fun n hn _ => hbest n hn⟩⟩
    · refine or_iff_not_imp_left.2 fun hne => ⟨hw.resolve_left hne, fun n hn he => ?_⟩
      have := hbest n hn (.inl he)
      have := hlt w
      omega
    · by_cases hien : p.getLsbD 10 = true
      · exact hbest n hn (.inr hien)
      · by_cases he : s.priority n = 7
        · exact hbest n hn (.inl he)
        · have := hw.resolve_right hien
          have := hlt n
          omega
  · rw [interruptWinner_eq, List.findSome?_eq_none_iff]
    simp only [candidateAt_eq_none]
    refine ⟨fun h n hn => ?_, fun h l hl n hn he => ?_⟩
    · have hout : s.priority n ∉ winningLevels p := fun hmem => h _ hmem n hn rfl
      rwa [priority_mem_winningLevels, not_or, Bool.not_eq_true] at hout
    · obtain ⟨hne, hien⟩ := h n hn
      rw [← he, priority_mem_winningLevels, hien] at hl
      exact hl.elim hne Bool.false_ne_true

/-! ### Pending flags (R620, R621, R623, R628) -/

theorem ipending_bit (s : State) (n : Fin 32) :
    s.ipending.getLsbD n = if s.levelSensitive n then s.reqLine n else s.pend.getLsbD n := by
  rw [State.ipending, bitsOf_getLsbD, decide_eq_true n.isLt, Bool.true_and, Fin.ofNat_val_eq_self]
  rfl

theorem edgeSources_bit (s : State) (n : Fin 32) : s.edgeSources.getLsbD n = !s.levelSensitive n := by
  rw [State.edgeSources, bitsOf_getLsbD, decide_eq_true n.isLt, Bool.true_and, Fin.ofNat_val_eq_self]

/-- Settles O30, bit by bit: the stores act under the mask of the edge-triggered sources. -/
theorem pendingFlagsFollowStoresAndEdges : Obligations.PendingFlagsFollowStoresAndEdges := by
  refine fun s v n => ⟨ipending_bit s n, rfl, ⟨_, rfl, ?_⟩, ⟨_, rfl, ?_⟩, ?_⟩
  · rw [BitVec.getLsbD_or, BitVec.getLsbD_and, edgeSources_bit]
    rfl
  · rw [BitVec.getLsbD_and, BitVec.getLsbD_not, BitVec.getLsbD_and, edgeSources_bit, decide_eq_true n.isLt,
      Bool.true_and]
    rfl
  · rw [sampleLines_pend, Bool.decide_and, Bool.and_comm (!s.levelSensitive n), Bool.and_right_comm]
    rfl

end Sys2Proof.Machine
end

section
/-! SUPPORT. What the timers count (spec/60_exceptions.md R640 to R652): a clock cycle of one timer, the events of its
sources, and what the end of an instruction makes of them. -/
namespace Sys2Proof.Machine

/-! ### A clock cycle of a timer (R640, R641, R642) -/

section
variable (t : Timer) (events : Nat → Nat)

/-- The timer passes from below its modulus to it or above. -/
def Timer.Wraps : Prop :=
  0 < t.increment events ∧ t.value.toNat < t.mod ∧ t.mod ≤ t.value.toNat + t.increment events

theorem tick_idle (h : t.ctl.getLsbD 0 = false) : t.tick events = ({ t with pulse := t.pulse - 1 }, false) := by
  rw [Timer.tick, show t.ctl.getLsbD Config.tctlRunBit = false from h, if_neg Bool.false_ne_true]

theorem tick_wraps (h : t.ctl.getLsbD 0 = true) (hw : t.Wraps events) : t.tick events =
    ({ t with
      value := BitVec.ofNat 32 (t.value.toNat + t.increment events - t.mod)
      prescale := if t.prescaled then 0 else t.prescale + 1
      pulse := t.pulse - 1 }, true) := by
  unfold Timer.tick
  exact (if_pos h).trans (if_pos hw)

theorem tick_counts (h : t.ctl.getLsbD 0 = true) (hw : ¬t.Wraps events) : t.tick events =
    ({ t with
      value := BitVec.ofNat 32 (t.value.toNat + t.increment events)
      prescale := if t.prescaled then 0 else t.prescale + 1
      pulse := t.pulse - 1 }, false) := by
  unfold Timer.tick
  exact (if_pos h).trans (if_neg hw)

/-- A timer wraps only while it runs. -/
theorem tick_wrapped (h : t.ctl.getLsbD 0 = true) : (t.tick events).2 = true ↔ t.Wraps events := by
  by_cases hw : t.Wraps events
  · rw [tick_wraps t events h hw]
    exact iff_of_true rfl hw
  · rw [tick_counts t events h hw]
    exact iff_of_false Bool.false_ne_true hw

theorem tick_prescale (h : t.ctl.getLsbD 0 = true) :
    (t.tick events).1.prescale = if t.divisor ≤ t.prescale + 1 then 0 else t.prescale + 1 := by
  have hp : (if t.prescaled then 0 else t.prescale + 1) = if t.divisor ≤ t.prescale + 1 then 0 else t.prescale + 1 :=
    if_congr decide_eq_true_iff rfl rfl
  by_cases hw : t.Wraps events
  · rw [tick_wraps t events h hw, hp]
  · rw [tick_counts t events h hw, hp]

/-- A clock cycle leaves modulus and control as they are. -/
theorem tick_settings : (t.tick events).1.modulus = t.modulus ∧ (t.tick events).1.ctl = t.ctl := by
  cases h : t.ctl.getLsbD 0 with
  | false => rw [tick_idle t events h]; exact ⟨rfl, rfl⟩
  | true =>
    by_cases hw : t.Wraps events
    · rw [tick_wraps t events h hw]; exact ⟨rfl, rfl⟩
    · rw [tick_counts t events h hw]; exact ⟨rfl, rfl⟩

theorem increment_clock (h : t.source = 0) : t.increment events = 1 := by
  rw [Timer.increment, h]
  rfl

theorem increment_prescale (h : t.source = 1) : t.increment events = if t.divisor ≤ t.prescale + 1 then 1 else 0 := by
  rw [Timer.increment, h]
  exact if_congr decide_eq_true_iff rfl rfl

theorem increment_source (h : 2 ≤ t.source) : t.increment events = events t.source := by
  unfold Timer.increment
  split
  · omega
  · omega
  · rfl

end

/-! ### The events of the sources (R640, R650, R652) -/

/-- The cache events that the model computes, and the others (R652, log 34). -/
theorem mem_cacheEventKinds : ∀ e : BitVec 4,
    (e.toNat ∈ [1, 4, 5, 7, 13] ↔ (e ≠ 0 ∧ e < 14) ∧ computedEvents.getLsbD e.toNat = true)
    ∧ (e.toNat ∈ [2, 3, 6, 8, 9, 10, 11, 12] ↔ (e ≠ 0 ∧ e < 14) ∧ computedEvents.getLsbD e.toNat = false) := by
  decide

theorem cacheEventNow_iff (s : State) (i : CycleInputs) (e : BitVec 4) :
    s.cacheEventNow i e = true ↔ s.countsEvent i e := by
  obtain ⟨hcomputed, hother⟩ := mem_cacheEventKinds e
  rw [State.cacheEventNow, State.countsEvent, hcomputed, hother, Bool.and_eq_true, Bool.and_eq_true, decide_eq_true_eq,
    decide_eq_true_eq]
  cases computedEvents.getLsbD e.toNat with
  | true => simp only [if_true, decide_eq_true_eq, and_true, reduceCtorEq, and_false, false_and, or_false]
  | false => simp only [Bool.false_eq_true, if_false, and_true, and_false, false_and, false_or]

theorem instBreak_iff (s : State) (a : Word) : s.instBreak a = true ↔ s.bictl.getLsbD 0 = true ∧
    if s.bictl.getLsbD 1 then a < s.binstLow ∨ s.binstHigh < a else s.binstLow ≤ a ∧ a ≤ s.binstHigh := by
  rw [State.instBreak, Bool.and_eq_true]
  refine and_congr_right fun _ => ?_
  show (if s.bictl.getLsbD 1 then _ else _ : Bool) = true ↔ _
  cases s.bictl.getLsbD 1 <;> simp

/-- The events that wait are counted one of each kind a clock cycle (log 34). -/
theorem clockCycle_events (s : State) (i : CycleInputs) (brk count : Bool) (e : Fin 16) :
    (s.clockCycle i brk count).cacheEvents[e] = s.cacheEvents[e] - 1 := by
  obtain ⟨_, _, _, h⟩ := clockCycle_frame s i brk count
  have hc : (s.clockCycle i brk count).cacheEvents = mapEach (fun n => n - 1) s.cacheEvents := by rw [h]
  rw [hc]
  exact mapEach_get _ _ e.val e.isLt

/-! ### Data breakpoints (R651, D22) -/

/-- The state after the data breakpoint logic: so many events, and so many free values drawn. -/
def State.withBreaks (s : State) (breaks free : Nat) : State :=
  { s with issue := { s.issue with dataBreaks := breaks }, freeCount := free }

/-- The data breakpoint logic makes an event of the access `x` in the state `s`, its free choice included (U22). -/
def State.breaksOn (s : State) (x : Access) : Bool :=
  s.bdctl.getLsbD (if x.store then 5 else 4) && !decide (s.bdDc = 0) &&
    if s.bdDc = 1 then s.bdAddrMatch x.daddr
    else if s.bdDc = 2 then s.bdValueMatch x.data
    else s.bdAddrMatch x.daddr && s.bdValueMatch x.data

theorem observe_eq (s : State) (x : Access) : ∃ free,
    s.observe x = s.withBreaks (s.issue.dataBreaks + if s.breaksOn x then 1 else 0) free := by
  have hon : (if x.store then s.bdctl.getLsbD Config.bdctlBsBit else s.bdctl.getLsbD Config.bdctlBlBit) =
      s.bdctl.getLsbD (if x.store then 5 else 4) := by
    cases x.store <;> rfl
  unfold State.observe State.breaksOn
  rw [hon]
  dsimp only
  generalize s.bdctl.getLsbD (if x.store then 5 else 4) = on
  generalize (if s.bdDc = 1 then _ else _ : Bool) = event
  generalize (decide (s.bdDc ≠ 1) && decide (s.bdataMask = 0)) = draws
  generalize decide (s.bdDc = 0) = unused
  cases on with
  | false => exact ⟨s.freeCount, rfl⟩
  | true =>
    cases unused with
    | true => exact ⟨s.freeCount, rfl⟩
    | false => cases draws <;> cases event <;> exact ⟨_, rfl⟩

/-- The value comparison is not a free choice, or not made (U22). -/
def State.valueSettled (s : State) : Prop := s.bdataMask ≠ 0 ∨ s.bdctl.getLsbD 1 = false

theorem bdAddrMatch_eq (s : State) (a : Word) : s.bdAddrMatch a =
    if s.bdctl.getLsbD 2 then decide (a ≤ s.bdataALow ∨ s.bdataAHigh ≤ a)
    else decide (s.bdataALow ≤ a ∧ a ≤ s.bdataAHigh) := by
  rw [Bool.decide_or, Bool.decide_and]
  rfl

theorem bdValueMatch_eq {s : State} (h : s.bdataMask ≠ 0) (v : Word) :
    s.bdValueMatch v = (decide (v &&& s.bdataMask = s.bdataVal &&& s.bdataMask) != s.bdctl.getLsbD 3) := by
  rw [State.bdValueMatch, if_neg h]
  show (if s.bdctl.getLsbD 3 then _ else _ : Bool) = _
  cases s.bdctl.getLsbD 3 <;> simp

theorem breaksOn_eq {s : State} (h : s.valueSettled) (x : Access) : s.breaksOn x = s.isDataBreak x := by
  unfold State.breaksOn State.isDataBreak
  rw [Bool.and_assoc, ← bdAddrMatch_eq]
  congr 1
  have hfield : s.bdctl.extractLsb' 0 2 = s.bdDc := rfl
  have hcompared : s.bdctl.getLsbD 1 = s.bdDc.getLsbD 1 := by
    rw [← hfield, BitVec.getLsbD_extractLsb']
    rfl
  rw [hfield]
  rcases mode_cases s.bdDc with hdc | hdc | hdc | hdc
  · rw [hdc]
    rfl
  · rw [hdc]
    rfl
  · have hmask : s.bdataMask ≠ 0 := h.resolve_right (by rw [hcompared, hdc]; decide)
    rw [hdc, ← bdValueMatch_eq hmask]
    rfl
  · have hmask : s.bdataMask ≠ 0 := h.resolve_right (by rw [hcompared, hdc]; decide)
    rw [hdc, ← bdValueMatch_eq hmask]
    rfl

theorem observed_breaks {s : State} (h : s.valueSettled) :
    s.observed.issue.dataBreaks = s.issue.dataBreaks + (s.issue.accesses.filter s.isDataBreak).length := by
  have hfold : ∀ xs : List Access, ∃ free, xs.foldr (fun x t => t.observe x) s =
      s.withBreaks (s.issue.dataBreaks + (xs.filter s.isDataBreak).length) free := by
    intro xs
    induction xs with
    | nil => exact ⟨s.freeCount, rfl⟩
    | cons x xs ih =>
      obtain ⟨free, hfree⟩ := ih
      obtain ⟨free', hx⟩ := observe_eq (s.withBreaks (s.issue.dataBreaks + (xs.filter s.isDataBreak).length) free) x
      refine ⟨free', ?_⟩
      rw [List.foldr_cons, hfree, hx, breaksOn_eq (s := s.withBreaks _ free) h, List.filter_cons]
      show s.withBreaks (_ + if s.isDataBreak x then 1 else 0) free' = _
      cases s.isDataBreak x <;> rfl
  obtain ⟨free, hfree⟩ := hfold s.issue.accesses
  rw [State.observed, hfree]
  rfl

/-! ### The end of an instruction (log 45) -/

/-- Beside its clock cycle, the end of an instruction leaves the timers alone. -/
theorem retire_timers {s t : State} {i : CycleInputs} {a : Word} {len : BitVec 16} (h : s.retire i a len = .ok t) :
    t.timers = (s.observed.clockCycle i (s.instBreak a) true).timers := by
  unfold State.retire at h
  split at h
  · cases h
  next s1 hw hb =>
  obtain ⟨_, _, -, -, -, rfl⟩ := writeBack_next hb rfl
  split at h
  · cases h
  next s2 hr =>
  obtain ⟨_, hu⟩ := updatePcsw_frame _ hw
  rw [hu] at hr
  obtain ⟨-, -, _, _, _, _, _, _, rfl⟩ := redirect_next hr
  cases h
  rfl

theorem observed_timers (s : State) : s.observed.timers = s.timers := by rw [observed_spec]

/-- The timers after an instruction: one clock cycle with the events as the instruction leaves them (log 45). -/
theorem retire_ticks {s t : State} {i : CycleInputs} {a : Word} {len : BitVec 16} (h : s.retire i a len = .ok t)
    (j : Fin 4) : t.timers[j] =
      { (s.timers[j].tick (s.observed.sourceEvents i (s.instBreak a))).1 with pulse := t.timers[j].pulse } := by
  rw [retire_timers h, ← observed_timers s]
  exact (clockCycle_clocked s.observed i (s.instBreak a) true).timers j

theorem sourceEvents_pin (s : State) (i : CycleInputs) (brk : Bool) {k : Nat} (h : k ∈ [2, 7, 8, 9, 10, 11, 12]) :
    s.sourceEvents i brk k = if i.pins.getLsbD k then 1 else 0 := by
  simp only [List.mem_cons, List.not_mem_nil, or_false] at h
  rcases h with rfl | rfl | rfl | rfl | rfl | rfl | rfl <;> rfl

/-- The reserved sources count nothing (U20). -/
theorem sourceEvents_reserved (s : State) (i : CycleInputs) (brk : Bool) {k : Nat} (h : 13 ≤ k) :
    s.sourceEvents i brk k = 0 := by
  obtain ⟨n, rfl⟩ := Nat.exists_eq_add_of_le h
  rw [Nat.add_comm]
  rfl

/-- Settles O31: for one timer by the cases of its clock cycle, for the machine source by source. -/
theorem timerCountsToItsModulus : Obligations.TimerCountsToItsModulus := by
  refine ⟨fun t events => ⟨fun h => ?idle, fun h => ⟨tick_wrapped t events h, fun hw => ?wraps, fun hw => ?counts,
      tick_prescale t events h⟩, (tick_settings t events).1, (tick_settings t events).2, increment_clock t events,
      increment_prescale t events, increment_source t events⟩,
    fun s i brk count k => ⟨clockCycle_clocked s i brk count, rfl, rfl, sourceEvents_pin s i brk,
      sourceEvents_reserved s i brk, fun h => if_pos ((cacheEventNow_iff ..).2 h),
      fun h => if_neg (mt (cacheEventNow_iff ..).1 h), fun h => if_pos ((cacheEventNow_iff ..).2 h),
      fun h => if_neg (mt (cacheEventNow_iff ..).1 h), clockCycle_events s i brk count,
      fun a len => ⟨instBreak_iff s a, observed_breaks, fun t h => retire_ticks h⟩⟩⟩
  case idle =>
    rw [tick_idle t events h]
    exact ⟨rfl, rfl⟩
  case wraps =>
    rw [tick_wraps t events h ((tick_wrapped t events h).1 hw)]
    rfl
  case counts =>
    have hnot : ¬t.Wraps events := fun hyes => by
      rw [(tick_wrapped t events h).2 hyes] at hw
      cases hw
    rw [tick_counts t events h hnot, BitVec.ofNat_add, BitVec.ofNat_toNat, BitVec.setWidth_eq]

end Sys2Proof.Machine
end

section
/-! SUPPORT. Powerdown (spec/60_exceptions.md R660 to R663): what the request completes, what goes on in full and in
partial powerdown, and what wakes the core. -/
namespace Sys2Proof.Machine

/-! ### Outstanding fetches (R137, R663) -/

/-- `u` comes from `s` by evictions and fills: below the cache only dirty blocks that `s` had in it have changed,
what is dirty in the cache was so before, and at most copybacks were counted. -/
structure Evicted (s u : State) : Prop where
  dirty : ∀ (k : Fin 32) (e : Fin 8), u.dcache[k].lines[e].dirty = true → u.dcache[k].lines[e] = s.dcache[k].lines[e]
  below : ∀ (b : BitVec 26) (i : Fin 64), u.lowerByte b i = s.lowerByte b i
    ∨ ∃ (k : Fin 32) (e : Fin 8), s.dcache[k].lines[e].valid = true ∧ s.dcache[k].lines[e].dirty = true
      ∧ dBlock k s.dcache[k].lines[e].tag = b ∧ u.lowerByte b i = s.dcache[k].lines[e].data[i]
  events : ∀ k : Fin 16, k ≠ 7 → u.cacheEvents[k] = s.cacheEvents[k]
  copybacks : s.cacheEvents[(7 : Fin 16)] ≤ u.cacheEvents[(7 : Fin 16)]

theorem Evicted.trans {s t u : State} (h : Evicted s t) (h' : Evicted t u) : Evicted s u := by
  refine ⟨fun k e hd => ?_, fun b i => ?_, fun k hk => (h'.events k hk).trans (h.events k hk),
    h.copybacks.trans h'.copybacks⟩
  · have ht := h'.dirty k e hd
    exact ht.trans (h.dirty k e (ht ▸ hd))
  · rcases h'.below b i with hu | ⟨k, e, hv, hd, hb, hu⟩
    · rw [hu]
      exact h.below b i
    · have hs := h.dirty k e hd
      rw [hs] at hv hd hb hu
      exact .inr ⟨k, e, hv, hd, hb, hu⟩

theorem evict_copybacks (s : State) (k : Fin 32) (e : Fin 8) :
    s.cacheEvents[(7 : Fin 16)] ≤ (s.evict k e).cacheEvents[(7 : Fin 16)] := by
  unfold State.evict
  dsimp only
  split
  · exact (Nat.le_add_right ..).trans_eq (countEvent_get ..).symm
  · exact le_rfl

theorem fill_copybacks (s : State) (a : Word) :
    s.cacheEvents[(7 : Fin 16)] ≤ (s.fill a).2.cacheEvents[(7 : Fin 16)] := by
  show _ ≤ (s.takeVictim (dSet a)).2.cacheEvents[(7 : Fin 16)]
  obtain ⟨u, rfl | rfl, h⟩ := takeVictim_eq s (dSet a)
  · rw [h]
    exact evict_copybacks ..
  · rw [h]
    exact evict_copybacks s.drawn ..

/-- A fill brings a clean block. -/
theorem fill_evicted (s : State) (a : Word) : Evicted s (s.fill a).2 := by
  refine ⟨fun k e hd => ?_, fill_lowerByte s a, fun k hk => fill_events s a hk, fill_copybacks s a⟩
  have hl : (s.fill a).2.dcache[k].lines[e] = _ := place_lines ..
  rw [hl] at hd ⊢
  split at hd
  · cases hd
  · next hne => rw [if_neg hne, takeVictim_dcache]

/-- The end of the oldest fetch is a fill or nothing but its end. -/
theorem finishFetch_cases (s : State) : let t : State := { s with fetches := s.fetches.dropLast }
    s.finishFetch = t ∨ ∃ a, s.finishFetch = (t.fill a).2 := by
  intro t
  unfold State.finishFetch
  split
  · next h =>
    have hnil := List.getLast?_eq_none_iff.1 h
    have ht : t = s := by
      simp only [t, hnil, List.dropLast_nil]
      rw [← hnil]
    exact .inl ht.symm
  · dsimp only
    split
    · exact .inr ⟨_, rfl⟩
    · exact .inl rfl

theorem finishFetch_evicted (s : State) : Evicted s s.finishFetch := by
  have hdrop : Evicted s { s with fetches := s.fetches.dropLast } :=
    ⟨fun _ _ _ => rfl, fun _ _ => .inl rfl, fun _ _ => rfl, le_rfl⟩
  rcases finishFetch_cases s with h | ⟨a, h⟩
  · rw [h]
    exact hdrop
  · rw [h]
    exact hdrop.trans (fill_evicted ..)

theorem drained_coherent {s : State} (hm : s.memOk = true) (h : s.Coherent) : s.drained.Coherent :=
  ⟨h.1, fun k e hv hd => (h.2 k e hv hd).trans (lowerBlock_congr fun i => (drained_lowerByte s _ i hm).symm)⟩

theorem drained_viewByte {s : State} (hm : s.memOk = true) (k : Fin 32) (t : BitVec 21) (i : Fin 64) :
    s.drained.viewByte k t i = s.viewByte k t i := by
  cases h : s.dcache[k].find t with
  | some e => simp only [State.viewByte, show s.drained.dcache[k].find t = some e from h, h]; rfl
  | none =>
    simp only [State.viewByte, show s.drained.dcache[k].find t = none from h, h]
    exact drained_lowerByte s _ i hm

/-- A byte below the cache whose block waits in no copyback buffer is that of SDRAM. -/
theorem lowerByte_of_not_waiting {s : State} {a : Word} (h : ∀ c ∈ s.copyback, c.block ≠ blockOf a) :
    s.lowerByte (blockOf a) (blockOffset a) = s.mem.read a.toNat := by
  have hnone : s.copyback.find? (fun c => decide (c.block = blockOf a)) = none := by
    simpa only [List.find?_eq_none, decide_eq_true_eq] using h
  unfold State.lowerByte
  rw [hnone]
  dsimp only
  rw [blockBase_add_offset]

/-! ### The request for full powerdown (R663) -/

/-- What the request completes: both fetches that can be outstanding, and the copyback buffers. -/
def State.completed (s : State) : State := s.finishFetch.finishFetch.drained

theorem powerdownRequest_true (s : State) : s.powerdownRequest true =
    { s.completed with fetches := [], pwrdwn := true, pwrdwnAck := true } := rfl

theorem completed_frame (s : State) : ∃ mem dcache fetches events free, s.completed = { s with
    mem := mem, dcache := dcache, copyback := [], fetches := fetches, cacheEvents := events, freeCount := free } := by
  unfold State.completed
  rw [finishFetch_frame s.finishFetch, finishFetch_frame s]
  exact ⟨_, _, _, _, _, rfl⟩

theorem completed_sameCore (s : State) : s.SameCore s.completed := (outstanding_quiet s).core

theorem fetched_evicted (s : State) : Evicted s s.finishFetch.finishFetch :=
  (finishFetch_evicted s).trans (finishFetch_evicted _)

theorem finishFetch_mem (s : State) : s.finishFetch.mem = s.mem := by rw [finishFetch_frame]

theorem fetched_memOk {s : State} (hm : s.memOk = true) : s.finishFetch.finishFetch.memOk = true := by
  rw [State.memOk, finishFetch_mem, finishFetch_mem]
  exact hm

theorem fetched_coherent {s : State} (h : s.Coherent) : s.finishFetch.finishFetch.Coherent :=
  (finishFetch_spec (finishFetch_spec h).1).1

theorem completed_viewByte {s : State} (h : s.Coherent) (hm : s.memOk = true) (k : Fin 32) (t : BitVec 21)
    (i : Fin 64) : s.completed.viewByte k t i = s.viewByte k t i := by
  obtain ⟨h1, -, hv1⟩ := finishFetch_spec h
  obtain ⟨-, -, hv2⟩ := finishFetch_spec h1
  rw [State.completed, drained_viewByte (fetched_memOk hm), hv2, hv1]

/-- SDRAM then has every byte that was below the cache, but for a dirty block that the last fetches evicted. -/
theorem completed_read {s : State} (h : s.Coherent) (hm : s.memOk = true) (b : Word) :
    s.completed.mem.read b.toNat = s.lowerByte (blockOf b) (blockOffset b)
    ∨ ∃ e, s.dFind b = some e ∧ s.dcache[dSet b].lines[e].dirty = true
      ∧ s.completed.mem.read b.toNat = s.lineByte b e := by
  have hread : s.completed.mem.read b.toNat = s.finishFetch.finishFetch.lowerByte (blockOf b) (blockOffset b) :=
    drained_read _ b (fetched_memOk hm)
  rcases (fetched_evicted s).below (blockOf b) (blockOffset b) with hu | ⟨k, e, hv, hd, hb, hu⟩
  · exact .inl (hread.trans hu)
  · rw [← dBlock_of_address] at hb
    obtain ⟨rfl, ht⟩ := dBlock_inj hb
    exact .inr ⟨e, find_of (h.1 _) hv ht, hd, hread.trans hu⟩

theorem completed_readByte {s : State} (h : s.Coherent) (hm : s.memOk = true) {b : Word}
    (hb : s.region b = .dramUncached → s.dFind b = none ∧ ∀ c ∈ s.copyback, c.block ≠ blockOf b) :
    s.completed.readByte b = s.readByte b := by
  have hr := region_of_core (completed_sameCore s) b
  cases hreg : s.region b with
  | dramCached => rw [readByte_cached hreg, readByte_cached (hr.trans hreg), completed_viewByte h hm]
  | dramUncached =>
    obtain ⟨hf, hc⟩ := hb hreg
    rw [readByte_uncached hreg, readByte_uncached (hr.trans hreg), ← lowerByte_of_not_waiting hc]
    rcases completed_read h hm b with hl | ⟨e, he, -⟩
    · exact hl
    · rw [hf] at he
      cases he
  | _ =>
    rw [readByte_elsewhere (s := s) (by simp [hreg]) (by simp [hreg]),
      readByte_elsewhere (s := s.completed) (by simp [hr, hreg]) (by simp [hr, hreg])]

theorem finishFetch_none {s : State} (h : s.fetches = []) : s.finishFetch = s := by
  unfold State.finishFetch
  rw [h]
  rfl

/-- The newest prefetch is in the cache. -/
theorem completed_brings {s : State} {b : Word} {fs : List Fetch} (h : s.fetches = ⟨blockOf b, true⟩ :: fs)
    (hl : fs.length ≤ 1) (hr : s.region (blockBase (blockOf b)) = .dramCached) :
    (s.completed.dFind b).isSome = true := by
  have hgoal : (s.finishFetch.finishFetch.dFind (blockBase (blockOf b))).isSome = true := by
    match fs with
    | [] =>
      have hdone : s.finishFetch.fetches = [] := by
        rw [finishFetch_frame, h]
        rfl
      rw [finishFetch_none hdone]
      exact finishFetch_brings (fs := []) h hr
    | [f] =>
      refine finishFetch_brings (fs := []) ?_ ?_
      · rw [finishFetch_frame, h]
        rfl
      · rw [region_of_core (finishFetch_quiet s).core]
        exact hr
  rw [← dFind_block (blockOf_blockBase _)]
  exact hgoal

/-! ### Full powerdown (R663) -/

theorem cycleStep_off {s : State} (h : s.pwrdwn = true) (i : CycleInputs) : cycleStep i s = .next (s.offCycle i) :=
  if_pos h

/-- In full powerdown the edges on the request lines are captured, or they are not (log 19). -/
theorem offCycle_pend (s : State) (i : CycleInputs) : (s.offCycle i).pend = s.pend ∨ ∀ n : Fin 32,
    (s.offCycle i).pend.getLsbD n = (s.pend.getLsbD n || !s.levelSensitive n && !decide (5 ≤ n.val ∧ n.val ≤ 8)
      && i.irq.getLsbD n && !s.irqLines.getLsbD n) := by
  unfold State.offCycle
  dsimp only
  split
  · refine .inr fun n => (sampleLines_pend s.drawn i.irq n).trans ?_
    show (_ || !s.levelSensitive n && _) = _
    rw [Bool.and_comm (_ && _) (!decide _), Bool.and_assoc, Bool.and_assoc]
    rfl
  · exact .inl rfl

theorem busWrite_off {s : State} (h : s.pwrdwn = true) (off : BitVec 21) (v : Word) : s.busWrite off v = .ok s :=
  if_pos h

theorem busRead_off {s : State} (h : s.pwrdwn = true) (off : BitVec 21) :
    s.busRead off = { s.drawn with piReply := some (Config.freeWord s.freeCount) } :=
  if_pos h

/-! ### Partial powerdown (R660, R661) -/

theorem cycleStep_sleeping {s : State} (hp : s.pwrdwn = false) (hr : s.run = .sleeping) (i : CycleInputs) :
    cycleStep i s = .next (s.sleepCycle i) := by
  simp only [cycleStep, clockStep, hp, hr, Bool.false_eq_true, if_false]

/-- The clock cycle of a sleeping core, before it may wake. -/
def State.dozed (s : State) (i : CycleInputs) : State :=
  s.drawn.clockCycle i false (countStalls s.pcsw || Config.freeBool s.freeCount)

theorem dozed_frame (s : State) (i : CycleInputs) : ∃ pend timers n, s.dozed i = { s with
    ccMaster := if countStalls s.pcsw || Config.freeBool s.freeCount then s.ccMaster + 1 else s.ccMaster
    timers := timers
    irqLines := i.irq
    pend := pend
    issue := { s.issue with dataBreaks := 0 }
    cacheEvents := mapEach (fun n => n - 1) s.cacheEvents
    freeCount := n } := clockCycle_frame s.drawn i false _

/-- The core wakes exactly where an interrupt would win (D23). -/
theorem sleepCycle_eq {s : State} (hr : s.run = .sleeping) (i : CycleInputs) : s.sleepCycle i = { s.dozed i with
    run := if ((s.dozed i).interruptWinner s.pcsw).isSome then .running else .sleeping } := by
  obtain ⟨_, _, _, hf⟩ := dozed_frame s i
  have hpcsw : (s.dozed i).pcsw = s.pcsw := by rw [hf]
  have hrun : (s.dozed i).run = .sleeping := by rw [hf]; exact hr
  have hdef : s.sleepCycle i = match (s.dozed i).interruptWinner (s.dozed i).pcsw with
    | some _ => { s.dozed i with run := .running }
    | none => s.dozed i := rfl
  rw [hdef, hpcsw]
  cases (s.dozed i).interruptWinner s.pcsw with
  | some n => rfl
  | none =>
    show s.dozed i = { s.dozed i with run := .sleeping }
    rw [← hrun]

theorem dozed_ccMaster (s : State) (i : CycleInputs) : (s.dozed i).ccMaster = s.ccMaster + 1
    ∨ s.pcsw.getLsbD 11 = false ∧ (s.dozed i).ccMaster = s.ccMaster := by
  obtain ⟨_, _, _, hf⟩ := dozed_frame s i
  rw [hf]
  dsimp only
  cases h : s.pcsw.getLsbD 11 with
  | true => exact .inl (if_pos (by rw [show countStalls s.pcsw = true from h]; rfl))
  | false =>
    rw [show countStalls s.pcsw = false from h, Bool.false_or]
    split
    · exact .inl rfl
    · exact .inr ⟨rfl, rfl⟩

/-! ### PI masters and a sleeping core (R131, R660) -/

theorem wakeByBus_sleeping {s : State} (h : s.run = .sleeping) : s.wakeByBus = { s with run := .running } := if_pos h

theorem busWrite_core {s : State} {off : BitVec 21} (hp : s.pwrdwn = false) (ha : mmioArea off.toNat = .core)
    (v : Word) : s.busWrite off v = s.wakeByBus.busWriteReg (mmioReg off.toNat) v := by
  simp only [State.busWrite, hp, ha, Bool.false_eq_true, if_false]

theorem busRead_core {s : State} {off : BitVec 21} (hp : s.pwrdwn = false) (ha : mmioArea off.toNat = .core) :
    ∃ reply n, s.busRead off = { s.wakeByBus with piReply := reply, freeCount := n } := by
  unfold State.busRead
  rw [hp, if_neg Bool.false_ne_true, ha]
  split
  · exact ⟨_, s.wakeByBus.freeCount, rfl⟩
  · dsimp only
    rw [readMmioReg_frame]
    exact ⟨_, _, rfl⟩
  · next hcore _ => exact absurd rfl hcore

/-- Beside TM32_CTL, no register that a PI master writes changes the run state. -/
theorem busWriteReg_run {s t : State} {r : MmioReg} {v : Word} (hr : r ≠ .ctl) (h : s.busWriteReg r v = .ok t) :
    t.run = s.run := by
  have haperture : ∀ {old : Word} {f : Word → State}, s.writeAperture old v f = .ok t → (∀ w, (f w).run = s.run) →
      t.run = s.run := fun hw hf => (congrArg State.run (writeAperture_next hw).1).trans (hf _)
  unfold State.busWriteReg at h
  split at h
  · exact absurd rfl hr
  · exact haperture h fun _ => rfl
  · exact haperture h fun _ => rfl
  · exact haperture h fun _ => rfl
  · exact haperture h fun _ => rfl
  · exact haperture h fun _ => rfl
  · cases h
    rfl
  · exact (writeMmioReg_quiet h).core.run

/-- A write of TM32_CTL to a running core leaves it running, or it resets and so stops it (R704). -/
theorem writeCtl_run {s t : State} {v : Word} (hr : s.run = .running) (h : s.writeCtl v = .ok t) :
    t.run = .running ∨ v.extractLsb' 30 2 = 1 ∧ t.run = .stopped := by
  unfold State.writeCtl at h
  dsimp only at h
  split at h
  · next hv =>
    cases h
    exact .inr ⟨hv, rfl⟩
  · split at h
    · cases h
      left
      split
      · unfold State.start
        split
        · rfl
        · exact hr
      · exact hr
    · cases h

/-- A PI master's write to a running core leaves it running, but for a reset by TM32_CTL. -/
theorem busWriteReg_keepsRunning {s t : State} {off : BitVec 21} {v : Word} (hr : s.run = .running)
    (h : s.busWriteReg (mmioReg off.toNat) v = .ok t) :
    t.run = .running ∨ off = 0x100030 ∧ v.extractLsb' 30 2 = 1 ∧ t.run = .stopped := by
  by_cases hctl : mmioReg off.toNat = .ctl
  · have hoff : off = 0x100030 := BitVec.eq_of_toNat_eq (mmioReg_eq hctl (by decide))
    rw [hctl] at h
    exact (writeCtl_run hr h).imp_right fun hreset => ⟨hoff, hreset⟩
  · exact .inl ((busWriteReg_run hctl h).trans hr)

/-! ### The statement -/

/-- The request for full powerdown changes memory and data cache at most, empties the copyback buffers and the fetches,
counts at most copybacks and is acknowledged (R663). -/
theorem powerdownRequest_completes (s : State) : let t := s.powerdownRequest true
    t = { s with
      mem := t.mem
      dcache := t.dcache
      copyback := []
      fetches := []
      cacheEvents := t.cacheEvents
      freeCount := t.freeCount
      pwrdwn := true
      pwrdwnAck := true }
    ∧ (∀ k : Fin 16, k ≠ 7 → t.cacheEvents[k] = s.cacheEvents[k]) ∧ s.cacheEvents[7] ≤ t.cacheEvents[7] := by
  refine ⟨?_, (fetched_evicted s).events, (fetched_evicted s).copybacks⟩
  obtain ⟨_, _, _, _, _, hf⟩ := completed_frame s
  rw [powerdownRequest_true, hf]

/-- Where cache and SDRAM agreed, the request loses no byte, and the newest prefetch is in the cache. -/
theorem powerdownRequest_keeps {s : State} (hc : s.Coherent) (hm : s.memOk = true) : let t := s.powerdownRequest true
    t.Coherent ∧ t.memOk = true
    ∧ (∀ b : Word, (s.region b = .dramUncached → s.dFind b = none ∧ ∀ c ∈ s.copyback, c.block ≠ blockOf b) →
      t.readByte b = s.readByte b)
    ∧ (∀ b : Word, t.mem.read b.toNat = s.lowerByte (blockOf b) (blockOffset b)
      ∨ ∃ e, s.dFind b = some e ∧ s.dcache[dSet b].lines[e].dirty = true ∧ t.mem.read b.toNat = s.lineByte b e)
    ∧ ∀ (b : Word) (fs : List Fetch), s.fetches = ⟨blockOf b, true⟩ :: fs → fs.length ≤ 1 →
      s.region (b &&& 0xFFFFFFC0) = .dramCached → (t.dFind b).isSome = true := by
  have hcoherent : s.completed.Coherent := drained_coherent (fetched_memOk hm) (fetched_coherent hc)
  refine ⟨coherent_congr hcoherent rfl rfl fun _ _ => rfl, drained_mem_wf _ (fetched_memOk hm),
    fun b hb => completed_readByte hc hm hb, completed_read hc hm, fun b fs hf hl hreg => ?_⟩
  rw [← blockBase_blockOf] at hreg
  exact completed_brings hf hl hreg

/-- In partial powerdown timers, request lines and, but for CS = 0, the cycle counter go on; the core may wake. -/
theorem sleepCycle_spec {s : State} (hr : s.run = .sleeping) (i : CycleInputs) : let t := s.sleepCycle i
    s.Clocked t i false
    ∧ t = { s with
      ccMaster := t.ccMaster
      timers := t.timers
      irqLines := i.irq
      pend := t.pend
      issue := { s.issue with dataBreaks := 0 }
      cacheEvents := t.cacheEvents
      freeCount := t.freeCount
      run := t.run }
    ∧ (∀ k : Fin 16, t.cacheEvents[k] = s.cacheEvents[k] - 1)
    ∧ (t.ccMaster = s.ccMaster + 1 ∨ s.pcsw.getLsbD 11 = false ∧ t.ccMaster = s.ccMaster)
    ∧ t.run = if (t.interruptWinner s.pcsw).isSome then .running else .sleeping := by
  dsimp only
  rw [sleepCycle_eq hr]
  obtain ⟨_, _, _, hf⟩ := dozed_frame s i
  have hclocked := clockCycle_clocked s.drawn i false (countStalls s.pcsw || Config.freeBool s.freeCount)
  have hframe : ∀ run, { s.dozed i with run := run } = { s with
      ccMaster := (s.dozed i).ccMaster
      timers := (s.dozed i).timers
      irqLines := i.irq
      pend := (s.dozed i).pend
      issue := { s.issue with dataBreaks := 0 }
      cacheEvents := (s.dozed i).cacheEvents
      freeCount := (s.dozed i).freeCount
      run := run } := fun run => by rw [hf]
  exact ⟨⟨hclocked.lines, hclocked.timers, hclocked.pulses, hclocked.pend⟩, hframe _,
    clockCycle_events s.drawn i false _, dozed_ccMaster s i, rfl⟩

/-- Settles O22: the request is `State.completed` and an acknowledge, full powerdown is `State.offCycle`, partial
powerdown `State.sleepCycle`, and an access of a PI master to the core first wakes it. -/
theorem powerdownKeepsTheState : Obligations.PowerdownKeepsTheState := by
  intro s i off v
  refine ⟨?request, rfl, fun hp => ?full, fun hp hr => ⟨?asleep, fun ha => ⟨?read, ?write, fun t ht => ?runs⟩⟩⟩
  case request =>
    obtain ⟨hframe, hevents, hcopybacks⟩ := powerdownRequest_completes s
    exact ⟨_, rfl, hframe, hevents, hcopybacks, fun hc hm => powerdownRequest_keeps hc hm⟩
  case full =>
    obtain ⟨_, hf⟩ := offCycle_frame s i
    refine ⟨⟨_, cycleStep_off hp i, by rw [hf], offCycle_pend s i⟩, busWrite_off hp off v, ?_, ?_, _, _,
      congrArg _ (busRead_off hp off), rfl⟩
    · rw [State.environment, hp]
      rfl
    · rw [State.environment, hp]
      rfl
  case asleep =>
    exact ⟨_, cycleStep_sleeping hp hr i, sleepCycle_spec hr i⟩
  case read =>
    obtain ⟨_, _, hread⟩ := busRead_core hp ha
    rw [wakeByBus_sleeping hr] at hread
    exact ⟨_, congrArg _ hread, rfl⟩
  case write =>
    refine (busWrite_core hp ha v).trans ?_
    rw [wakeByBus_sleeping hr]
    exact (busWrite_core (s := { s with run := .running }) hp ha v).symm
  case runs =>
    have hw : s.wakeByBus.busWriteReg (mmioReg off.toNat) v = .ok t := (busWrite_core hp ha v).symm.trans ht
    rw [wakeByBus_sleeping hr] at hw
    exact busWriteReg_keepsRunning (s := { s with run := .running }) rfl hw

end Sys2Proof.Machine
end
